-- ==== Sys2Proof/Word.lean ====
section
/-! DEFINITION. The two bit-vector types of the block: the byte of every wire unit and buffer element, and
the 16-bit word of the CRC register and the estimate (00_scope.md R5, R6). All values are unsigned. -/

namespace Sys2Proof

/-- `BYTE` of R5: 8 bits, bit 0 the least significant (R6). -/
abbrev Byte := BitVec 8

/-- `CRC_WIDTH` and `EST_WIDTH` of R5: 16 bits. -/
abbrev Word := BitVec 16

end Sys2Proof
end

