-- ==== Sys2Proof/Syntax.lean ====
section
/-! DEFINITION. The enumerations of the block (30_encoding.md R84), the instruction type (one constructor per
row of spec/opcode_table.json), and the forms in which an invocation reaches the block before it is decoded. -/

namespace Sys2Proof

/-- The six functions (R75), in the order of R84. -/
inductive FunctionType where
  | readCoil
  | writeCoil
  | readDigitalInput
  | readInputRegister
  | readHoldingRegister
  | writeHoldingRegister
deriving DecidableEq, Repr

/-- A functionType operand: one of the six, or one of the two *unmapped* numbers of R84 (R22, R80(b)). -/
inductive FnSel where
  | fn (t : FunctionType)
  | unmapped6
  | unmapped7
deriving DecidableEq, Repr

/-- The two frame kinds a request can have (R23). -/
inductive RequestKind where
  | requestRead
  | requestWrite
deriving DecidableEq, Repr

/-- frameKind (R84). -/
inductive FrameKind where
  | requestRead
  | requestWrite
  | responseToRequest
  | responseException
deriving DecidableEq, Repr

/-- TransmissionState, the result tag of an exchange (R28). -/
inductive TransmissionState where
  | ok
  | timeout
  | errorCRC
  | errorSendMessage
  | errorReceiveMessage
  | characteristicCantUpdate
  | none
deriving DecidableEq, Repr

/-- Sub-causes of `InvalidParameter` (R29). -/
inductive ParameterCause where
  | badWidth
  | unmappedFunction
deriving DecidableEq, Repr

/-- Sub-causes of `MalformedFrame` (R29). -/
inductive FrameCause where
  | tooShort
  | tooLong
deriving DecidableEq, Repr

/-- The codec fault register's values with their sub-causes (R29). -/
inductive CodecFault where
  | none
  | invalidParameter (cause : ParameterCause)
  | malformedFrame (cause : FrameCause)
deriving DecidableEq, Repr

/-- The session state (R32). -/
inductive SessState where
  | idle
  | sending
  | awaitingResponse
  | complete
  | timedOut
  | sendFailed
  | cantUpdate
  | receiveFailed
deriving DecidableEq, Repr

/-- The ten entries of the exception-code table (R77), named by their codes. -/
inductive ExcEntry where
  | code1 | code2 | code3 | code4 | code5 | code6 | code7 | code8 | code10 | code11
deriving DecidableEq, Repr

/-- One constructor per row of spec/opcode_table.json.

`REQ.*`: `a` is byte 0, `r0 r1` bytes 2 and 3, `t0 t1` bytes 4 and 5; bytes 6 and 7 are the CRC that
`ENCODE` computes (R71), so they are no operand. `RSP_READ.*`: `n` is byte 2, `data` the bytes after it,
`c d` the last two (R72). `RSP_WRITE.*`: `r0 r1` bytes 2 and 3, `v0 v1` bytes 4 and 5, `c d` bytes 6 and 7
(R73). `RSP_EXC.*`: `e` is byte 2, `c d` bytes 3 and 4 (R74). The last nine are the operations of R82. -/
inductive Instr where
  | reqReadCoil (a r0 r1 t0 t1 : Byte)
  | reqReadDigitalInput (a r0 r1 t0 t1 : Byte)
  | reqReadHoldingRegister (a r0 r1 t0 t1 : Byte)
  | reqReadInputRegister (a r0 r1 t0 t1 : Byte)
  | reqWriteCoil (a r0 r1 t0 t1 : Byte)
  | reqWriteHoldingRegister (a r0 r1 t0 t1 : Byte)
  | rspReadCoil (a n : Byte) (data : List Byte) (c d : Byte)
  | rspReadDigitalInput (a n : Byte) (data : List Byte) (c d : Byte)
  | rspReadHoldingRegister (a n : Byte) (data : List Byte) (c d : Byte)
  | rspReadInputRegister (a n : Byte) (data : List Byte) (c d : Byte)
  | rspWriteCoil (a r0 r1 v0 v1 c d : Byte)
  | rspWriteHoldingRegister (a r0 r1 v0 v1 c d : Byte)
  | rspExcReadCoil (a e c d : Byte)
  | rspExcReadDigitalInput (a e c d : Byte)
  | rspExcReadHoldingRegister (a e c d : Byte)
  | rspExcReadInputRegister (a e c d : Byte)
  | rspExcWriteCoil (a e c d : Byte)
  | rspExcWriteHoldingRegister (a e c d : Byte)
  | crcInit
  | crcByte (b : Byte)
  | crcOut
  | crc16 (bytes : List Byte)
  | encode (slave : Byte) (fn : FnSel) (addr tail : List Byte)
  | decode (w : List Byte)
  | estArm
  | estUpdate
  | execute (slave : Byte) (fn : FnSel) (addr tail : List Byte)
deriving DecidableEq, Repr

/-- The operand lines of the command port, each named by R82: `byte` is `b` of `CRC.BYTE`, `bytes` the byte
sequence of `CRC16` and `DECODE`, the rest the request operands of R22. DESIGN CHOICE (log 2): the spec gives
the operations named operands and no binary layout of them. -/
structure OperandLines where
  byte  : Byte
  bytes : List Byte
  slave : Byte
  fn    : BitVec 3
  addr  : List Byte
  tail  : List Byte
deriving DecidableEq, Repr

/-- An invocation before it is decoded. `command`: a 4-bit select code and the operand lines (R82).
`requestFrame`, `responseFrame`: the bytes of a frame in wire order with its direction, which no byte of the
frame tells (R70). -/
inductive Raw where
  | command (op : BitVec 4) (x : OperandLines)
  | requestFrame (w : List Byte)
  | responseFrame (w : List Byte)
deriving DecidableEq, Repr

/-- Why a raw invocation is no row of the table. -/
inductive DecodeError where
  /-- The select code is one of `0x9` to `0xF` (R82). -/
  | reservedOperation (op : BitVec 4)
  /-- Byte 1 of the frame selects no format of its direction (R70, R80(a)). -/
  | unmappedFunction
  /-- The frame is shorter than its format (R70). -/
  | frameTooShort
  /-- The frame is longer than its format (R70). -/
  | frameTooLong
  /-- The last two bytes of a request frame are not the CRC of the bytes before them (R71). -/
  | requestCrc
deriving DecidableEq, Repr

end Sys2Proof
end

