-- ==== Sys2Proof/Config.lean ====
section
/-! DEFINITION. What an implementation fixes (00_scope.md R5): the constants, the open parameters, and the
opaque texts of the exception table. -/

namespace Sys2Proof

/-- `CRC_SEED`. -/
@[simp] def Config.crcSeed : Word := 0xFFFF#16

/-- `CRC_POLY`. -/
@[simp] def Config.crcPoly : Word := 0xA001#16

/-- `CRC_BITS_PER_BYTE`. -/
@[simp] def Config.crcBitsPerByte : Nat := 8

/-- `EXC_OFFSET`: exception function code = request code + 128 (R76). -/
@[simp] def Config.excOffset : Byte := 128#8

/-- `EXC_THRESHOLD`: a byte 1 above this marks an exception for the estimator (R141). -/
@[simp] def Config.excThreshold : Byte := 16#8

/-- `PARAM_LEN`: required length of each byte-pair operand (R111). -/
@[simp] def Config.paramLen : Nat := 2

/-- `REQ_LEN`. -/
@[simp] def Config.reqLen : Nat := 8

/-- `RSP_WRITE_LEN`. -/
@[simp] def Config.rspWriteLen : Nat := 8

/-- `RSP_EXC_LEN`. -/
@[simp] def Config.rspExcLen : Nat := 5

/-- `RSP_READ_PROVISIONAL`. -/
@[simp] def Config.rspReadProvisional : Nat := 3

/-- `RSP_READ_LEN(n)`. -/
@[simp] def Config.rspReadLen (n : Byte) : Nat := 3 + n.toNat + 2

/-- `RSP_MAX_LEN`. -/
@[simp] def Config.rspMaxLen : Nat := 260

/-- `WATCHDOG_MS`: carried, and read by no rule (R207). -/
def Config.watchdogMs : Nat := 10000

/-- The two values of `OVERSHOOT_REPORT` (R5, D17). -/
inductive OvershootReport where
  | errorReceiveMessage
  | waitForTimeout
deriving DecidableEq, Repr

/-- The open parameters of R5 that a rule reads. State holds them; no step writes them (log 9, 10, 11). -/
structure Params where
  /-- `NOTIFY_CHECK_FIRST` (R152, D19). -/
  notifyCheckFirst : Bool
  /-- `DISCONNECT_STATE` (R158, D28). -/
  disconnectState : TransmissionState
  /-- `OVERSHOOT_REPORT` (R143, R155, D17). -/
  overshootReport : OvershootReport
deriving DecidableEq, Repr

/-- `EXC_TEXT`, titles: free values (R77, D14; log 12). The title of code 2 is the spec's and does not come
from here. -/
opaque Config.excTitleText : ExcEntry → String

/-- `EXC_TEXT`, descriptions: free values (R77, D14; log 12). -/
opaque Config.excDescText : ExcEntry → String

end Sys2Proof
end

