-- ==== Sys2Proof/Machine/Crc.lean ====
section
/-! DEFINITION. The CRC function (40_crc.md R100 to R107): one shift step, one byte, a byte sequence, and the
two wire bytes of a CRC. -/

namespace Sys2Proof.Machine

/-- One of the eight repetitions of R102: the bit tested is bit 0 before the shift; the XOR is applied after
it. -/
def crcShift (c : Word) : Word :=
  if c.getLsbD 0 then (c >>> 1) ^^^ Config.crcPoly else c >>> 1

/-- `n` repetitions of `crcShift`. -/
def crcShifts (n : Nat) (c : Word) : Word :=
  match n with
  | 0 => c
  | k + 1 => crcShifts k (crcShift c)

/-- `step(c, b)` of R104: the value `CRC.BYTE b` leaves when `crc` was `c` (R102). -/
def crcStep (c : Word) (b : Byte) : Word :=
  crcShifts Config.crcBitsPerByte (c ^^^ b.setWidth 16)

/-- Feeding a byte sequence, in order, from register value `c` (R105(b)). -/
def crcFeed (c : Word) (bytes : List Byte) : Word :=
  match bytes with
  | [] => c
  | b :: rest => crcFeed (crcStep c b) rest

/-- `crc16(s)`: the fold of `step` from the seed (R104). -/
def crc16 (bytes : List Byte) : Word := crcFeed Config.crcSeed bytes

/-- `v[7:0]` (R6). -/
def lowByte (v : Word) : Byte := v.extractLsb' 0 8

/-- `v[15:8]` (R6). -/
def highByte (v : Word) : Byte := v.extractLsb' 8 8

/-- The two wire bytes of a CRC value, low byte first (R51, R103). -/
def crcBytes (v : Word) : List Byte := [lowByte v, highByte v]

/-- The 16-bit value two CRC wire bytes carry: `lo + 256 * hi` (R78(d)). -/
def wordOfBytes (lo hi : Byte) : Word := hi ++ lo

/-- A payload followed by its CRC (R27: `wireBytes = payloadBytes ++ crc`). -/
def withCrc (payload : List Byte) : List Byte := payload ++ crcBytes (crc16 payload)

end Sys2Proof.Machine
end

