-- ==== Sys2Proof/Machine/State.lean ====
section
/-! DEFINITION. The state of the block and of the session around it (10_state.md R20 to R37), the outcomes an
operation returns (44_session.md R159), the moves of the outside agents, and the state after reset (R36). Plain
data throughout. -/

namespace Sys2Proof.Machine

/-- The request operand registers (R22). -/
structure ReqOperands where
  slave : Byte
  fn    : FnSel
  addr  : List Byte
  tail  : List Byte
deriving DecidableEq, Repr

/-- The eight bytes of `tx` (R23), each named by its place in the format `REQ` (R71). -/
structure TxFrame where
  slave : Byte
  fc    : Byte
  addr0 : Byte
  addr1 : Byte
  tail0 : Byte
  tail1 : Byte
  crcLo : Byte
  crcHi : Byte
deriving DecidableEq, Repr

/-- The three payload variants of a response (R26). -/
inductive RspBody where
  /-- `rsp.nbytes`, `rsp.data`. -/
  | read (nbytes : Byte) (data : List Byte)
  /-- `rsp.addr`, `rsp.value`, each a pair of bytes in wire order. -/
  | write (addr value : Byte × Byte)
  /-- `rsp.excCode`, and the table entry that gives `rsp.excTitle` and `rsp.excDesc`, or none (R77). -/
  | exception (code : Byte) (entry : Option ExcEntry)
deriving DecidableEq, Repr

/-- The response frame register `rsp` (R26): the fields of every response, and its variant. -/
structure Rsp where
  slave : Byte
  fc    : Byte
  fn    : FunctionType
  body  : RspBody
  crcLo : Byte
  crcHi : Byte
  wire  : List Byte
deriving DecidableEq, Repr

/-- What an exchange returns (R159, D34). -/
inductive ExchangeOutcome where
  /-- `Result(bytes, state, optional frame)`. -/
  | result (bytes : List Byte) (state : TransmissionState) (frame : Option Rsp)
  /-- `CodecFault(kind, bytes)`. -/
  | codecFault (f : CodecFault) (bytes : List Byte)
deriving DecidableEq, Repr

/-- What the last operation or exchange returned to its invoker (log 14). -/
inductive Ret where
  /-- No value: after reset, after an operation whose only results are registers, while an exchange is in
  flight. -/
  | nothing
  /-- `CRC.OUT`: two bytes, low then high (R103). -/
  | crcPair (lo hi : Byte)
  /-- `CRC16`: the value (R104). -/
  | crcValue (v : Word)
  /-- `ENCODE`: the wire bytes (R83, R110). -/
  | encoded (f : TxFrame)
  /-- `DECODE`: a Correct frame (R120). -/
  | frame (r : Rsp)
  /-- `DECODE`: CRC mismatch (R125). -/
  | crcMismatch
  /-- `ENCODE` or `DECODE` raised a codec fault (R171). -/
  | raised (f : CodecFault)
  /-- An exchange ended (R159). -/
  | exchange (o : ExchangeOutcome)
deriving DecidableEq, Repr

/-- The two units that raise codec faults (R171). -/
inductive CodecUnit where
  | enc
  | dec
deriving DecidableEq, Repr

/-- One entry of the fault log: the unit that raised, and the fault with its sub-cause (R177, D20; log 29). -/
structure LoggedFault where
  raisedBy : CodecUnit
  fault    : CodecFault
deriving DecidableEq, Repr

/-- The transport call of `Sending` whose answer is awaited (R152, R153; log 13). -/
inductive PendingCall where
  | none
  | supportsNotifications
  | write
deriving DecidableEq, Repr

/-- One call made to the transport collaborator (R162 to R165; log 14). -/
inductive TransportCall where
  | supportsNotifications
  | write (frame : TxFrame)
  | subscribe
  | unsubscribe
deriving DecidableEq, Repr

/-- One move of an agent outside the block (R20, R83, R174; log 1). -/
inductive Event where
  /-- The caller invokes an operation (R20). -/
  | invoke (r : Raw)
  /-- The transport answers `supportsNotifications` (R165). -/
  | notify (answer : Bool)
  /-- The transport answers `write` (R162). -/
  | write (answer : Bool)
  /-- The peer delivers a fragment (R155). -/
  | fragment (f : List Byte)
  /-- The watchdog fires (R157). -/
  | watchdog
  /-- The transport disconnects (R158). -/
  | disconnect
  /-- The block is reset (R200). -/
  | reset
deriving DecidableEq, Repr

/-- The two addressable buffers (20_memory.md R50). -/
inductive Space where
  | tx
  | rx
deriving DecidableEq, Repr

/-- Why a step stops with a fault. -/
inductive Fault where
  /-- Raised by `memRead` and `memByte` for an index outside a buffer, which R7 leaves undefined and says never
  happens. Safe: the model stops, and no step reaches it. -/
  | bufferRange
deriving DecidableEq, Repr

/-- Why a step is refused. -/
inductive Refusal where
  /-- Raised by an arm of `exec` for an instruction without a meaning; no arm raises it. Safe. -/
  | notModelled (mnemonic : String)
  /-- Raised by every operation invoked while `sess` is `Sending` or `AwaitingResponse` (R160, R202). Safe. -/
  | exchangeInFlight
  /-- Raised by a step for a select code `0x9` to `0xF` (R82) and for bytes that are no request frame
  (log 5). Safe. -/
  | undecodable (e : DecodeError)
deriving DecidableEq, Repr

/-- The machine's state. INVENTORY.md lists each field with its rule and reset value. -/
structure State where
  crc        : Word
  bitcnt     : BitVec 4
  req        : ReqOperands
  tx         : TxFrame
  txKind     : RequestKind
  txFn       : FunctionType
  txValid    : Bool
  rx         : List Byte
  est        : Word
  latched    : Bool
  done       : Bool
  overshoot  : Bool
  rsp        : Option Rsp
  rspValid   : Bool
  tstate     : TransmissionState
  fault      : CodecFault
  sess       : SessState
  wdArmed    : Bool
  subscribed : Bool
  writeTries : Fin 3
  call       : PendingCall
  ret        : Ret
  calls      : List TransportCall
  faultLog   : List LoggedFault
  inbox      : List Event
  cfg        : Params
deriving DecidableEq, Repr

/-- The state right after reset (R36, R200). The values the spec leaves unspecified are the model's own
(log 6, 7, 8), and so are those of the model's own fields (log 1, 9, 10, 11, 13, 14, 29). -/
def State.reset : State :=
  { crc := 0xFFFF#16
    bitcnt := 0#4
    req := { slave := 0#8, fn := .fn .readCoil, addr := [], tail := [] }
    tx := { slave := 0#8, fc := 0#8, addr0 := 0#8, addr1 := 0#8
            tail0 := 0#8, tail1 := 0#8, crcLo := 0#8, crcHi := 0#8 }
    txKind := .requestRead
    txFn := .readCoil
    txValid := false
    rx := []
    est := 0#16
    latched := false
    done := false
    overshoot := false
    rsp := Option.none
    rspValid := false
    tstate := .none
    fault := .none
    sess := .idle
    wdArmed := false
    subscribed := false
    writeTries := 0
    call := .none
    ret := .nothing
    calls := []
    faultLog := []
    inbox := []
    cfg := { notifyCheckFirst := true
             disconnectState := .errorReceiveMessage
             overshootReport := .errorReceiveMessage } }

end Sys2Proof.Machine
end

