-- ==== Sys2Proof/Machine/Tables.lean ====
section
/-! DEFINITION. The constant tables of the block (10_state.md R33): function table and exception function codes
(30_encoding.md R75, R76), exception-code table (R77), classification of byte 1 (R79), and the numbers of the
enumerations (R84). -/

namespace Sys2Proof.Machine

/-- `FC`: the request code of a function (R75). -/
def requestCode (t : FunctionType) : Byte :=
  match t with
  | .readCoil => 1#8
  | .readDigitalInput => 2#8
  | .readHoldingRegister => 3#8
  | .readInputRegister => 4#8
  | .writeCoil => 5#8
  | .writeHoldingRegister => 6#8

/-- `FT`: the inverse of `FC`, undefined (`none`) outside 1 to 6 (R75). -/
def functionOfCode (c : Byte) : Option FunctionType :=
  match c.toNat with
  | 1 => some .readCoil
  | 2 => some .readDigitalInput
  | 3 => some .readHoldingRegister
  | 4 => some .readInputRegister
  | 5 => some .writeCoil
  | 6 => some .writeHoldingRegister
  | _ => none

/-- `EXC(t) = FC(t) + 128`, in 8 bits (R76). -/
def exceptionCode (t : FunctionType) : Byte := requestCode t + Config.excOffset

/-- The inverse of `EXC`: subtract 128 and reverse-map, for 129 to 134 only (R76). -/
def functionOfException (c : Byte) : Option FunctionType :=
  if Config.excOffset < c then functionOfCode (c - Config.excOffset) else none

/-- The two write functions (R9, R75). -/
def isWrite (t : FunctionType) : Bool :=
  match t with
  | .writeCoil => true
  | .writeHoldingRegister => true
  | .readCoil => false
  | .readDigitalInput => false
  | .readHoldingRegister => false
  | .readInputRegister => false

/-- Request frameKind of a function (R75, R111 step 4). -/
def requestKind (t : FunctionType) : RequestKind :=
  if isWrite t then .requestWrite else .requestRead

/-- A request's kind among the four frame kinds (R84). -/
def frameKindOfRequest (k : RequestKind) : FrameKind :=
  match k with
  | .requestRead => .requestRead
  | .requestWrite => .requestWrite

/-- The three branches of `DECODE` and the function each is for (R79, R120). -/
inductive RspClass where
  | exception (t : FunctionType)
  | write (t : FunctionType)
  | read (t : FunctionType)
deriving DecidableEq, Repr

/-- Classification of byte 1 by DEC (R79, R127): exception first, then write, then read; `none` is unmapped. -/
def classify (c : Byte) : Option RspClass :=
  match functionOfException c with
  | some t => some (.exception t)
  | none =>
    match functionOfCode c with
    | some t => if isWrite t then some (.write t) else some (.read t)
    | none => none

/-- The exception-code table (R77): ten entries, absent outside them. -/
def exceptionEntry (e : Byte) : Option ExcEntry :=
  match e.toNat with
  | 1 => some .code1
  | 2 => some .code2
  | 3 => some .code3
  | 4 => some .code4
  | 5 => some .code5
  | 6 => some .code6
  | 7 => some .code7
  | 8 => some .code8
  | 10 => some .code10
  | 11 => some .code11
  | _ => none

/-- `exceptionTitle` of an entry: the source's one title for code 2, an opaque text otherwise (R77; log 12). -/
def entryTitle (e : ExcEntry) : String :=
  if e = .code2 then "Illegal Data Address" else Config.excTitleText e

/-- `exceptionDescription` of an entry: opaque (R77; log 12). -/
def entryDescription (e : ExcEntry) : String := Config.excDescText e

/-- The function type named by an operand, or *unmapped* (R22, R84). -/
def mappedFunction (f : FnSel) : Option FunctionType :=
  match f with
  | .fn t => some t
  | .unmapped6 => none
  | .unmapped7 => none

/-- functionType numbers (R84). -/
def functionNumber (f : FnSel) : BitVec 3 :=
  match f with
  | .fn .readCoil => 0#3
  | .fn .writeCoil => 1#3
  | .fn .readDigitalInput => 2#3
  | .fn .readInputRegister => 3#3
  | .fn .readHoldingRegister => 4#3
  | .fn .writeHoldingRegister => 5#3
  | .unmapped6 => 6#3
  | .unmapped7 => 7#3

/-- The functionType of a number (R84). -/
def functionOfNumber (n : BitVec 3) : FnSel :=
  match n.toNat with
  | 0 => .fn .readCoil
  | 1 => .fn .writeCoil
  | 2 => .fn .readDigitalInput
  | 3 => .fn .readInputRegister
  | 4 => .fn .readHoldingRegister
  | 5 => .fn .writeHoldingRegister
  | 6 => .unmapped6
  | _ => .unmapped7

/-- frameKind numbers (R84). -/
def frameKindNumber (k : FrameKind) : BitVec 2 :=
  match k with
  | .requestRead => 0#2
  | .requestWrite => 1#2
  | .responseToRequest => 2#2
  | .responseException => 3#2

/-- TransmissionState numbers (R28, R84). -/
def transmissionNumber (t : TransmissionState) : BitVec 3 :=
  match t with
  | .ok => 0#3
  | .timeout => 1#3
  | .errorCRC => 2#3
  | .errorSendMessage => 3#3
  | .errorReceiveMessage => 4#3
  | .characteristicCantUpdate => 5#3
  | .none => 6#3

/-- Codec fault numbers (R29, R84). -/
def faultNumber (f : CodecFault) : BitVec 2 :=
  match f with
  | .none => 0#2
  | .invalidParameter _ => 1#2
  | .malformedFrame _ => 2#2

/-- Session state numbers (R32, R84). -/
def sessionNumber (s : SessState) : BitVec 3 :=
  match s with
  | .idle => 0#3
  | .sending => 1#3
  | .awaitingResponse => 2#3
  | .complete => 3#3
  | .timedOut => 4#3
  | .sendFailed => 5#3
  | .cantUpdate => 6#3
  | .receiveFailed => 7#3

end Sys2Proof.Machine
end

