-- ==== Sys2Proof/Machine/Ops.lean ====
section
/-! DEFINITION. The named operations over buffers and registers (00_scope.md R7), raising a codec fault
(60_exceptions.md R171, R176) and the fresh `Idle` that ends it (R177, 44_session.md R151), the ways out of an
exchange, and the refusal of an operation while one is in flight (R160). -/

namespace Sys2Proof.Machine

/-- `MemRead(buf, i, n)`: bytes `i .. i+n`, defined only when `i + n <= len(buf)` (R7). -/
def memRead (buf : List Byte) (i n : Nat) : Except Fault (List Byte) :=
  if i + n ≤ buf.length then .ok ((buf.drop i).take n) else .error .bufferRange

/-- One byte of a buffer (R7, R53). -/
def memByte (buf : List Byte) (i : Nat) : Except Fault Byte :=
  match buf[i]? with
  | some b => .ok b
  | none => .error .bufferRange

/-- `rxLen` (R24). -/
def rxLen (s : State) : Nat := s.rx.length

/-- `append(rx, f)` (R7, R155). -/
def rxAppend (f : List Byte) (s : State) : State := { s with rx := s.rx ++ f }

/-- The bytes of `tx` in index order (R50). -/
def txBytes (f : TxFrame) : List Byte :=
  [f.slave, f.fc, f.addr0, f.addr1, f.tail0, f.tail1, f.crcLo, f.crcHi]

/-- One byte of an addressable buffer, `none` outside it (R50). -/
def readByte (s : State) (sp : Space) (a : Nat) : Option Byte :=
  match sp with
  | .tx => (txBytes s.tx)[a]?
  | .rx => s.rx[a]?

/-- The moves still to come after one is taken (log 1). -/
def withInbox (rest : List Event) (s : State) : State := { s with inbox := rest }

/-- A value left in `crc` by the CRC unit, which counts no repetition between operations (R34, R102;
log 26). -/
def setCrc (v : Word) (s : State) : State := { s with crc := v, bitcnt := 0#4 }

/-- No response frame is exposed: `rspValid <- 0` and `rsp` holds no value (R26, R125; log 8). -/
def dropRsp (s : State) : State := { s with rsp := Option.none, rspValid := false }

/-- The value an operation returns to its invoker (log 14). -/
def returning (r : Ret) (s : State) : State := { s with ret := r }

/-- The sticky log keeps every codec fault raised, oldest first; no operation removes one (R177, D20; log 29). -/
def logFault (u : CodecUnit) (f : CodecFault) (s : State) : State :=
  { s with faultLog := s.faultLog ++ [{ raisedBy := u, fault := f }] }

/-- Raising a codec fault, the block's entry to an abnormal outcome (R171, R176): `fault` is written, the unit's
valid flag is cleared, the fault is returned to the invoker, and nothing else of the block is written. The model's
own log takes the fault down (D20; log 29). -/
def raiseCodec (u : CodecUnit) (f : CodecFault) (s : State) : State :=
  match u with
  | .enc => { logFault .enc f s with txValid := false, fault := f, ret := .raised f }
  | .dec => { dropRsp (logFault .dec f s) with fault := f, ret := .raised f }

/-- The fresh `Idle` that starts an exchange and clears every earlier outcome (R151, R177). `subscribed` is left
as the transport has it, and the fault log is sticky (D20). -/
def freshIdle (s : State) : State :=
  { dropRsp s with
    rx := [], est := 0#16, latched := false, done := false, overshoot := false,
    tstate := .none, fault := .none, writeTries := 0, wdArmed := false, sess := .idle,
    call := .none, ret := .nothing }

/-- A call made to the transport (R162 to R165). -/
def transportCall (c : TransportCall) (s : State) : State := { s with calls := s.calls ++ [c] }

/-- `transport.subscribe(onFragment)` (R163). -/
def subscribe (s : State) : State := { transportCall .subscribe s with subscribed := true }

/-- `transport.unsubscribe()` (R164). -/
def unsubscribe (s : State) : State := { transportCall .unsubscribe s with subscribed := false }

/-- The watchdog is armed, or restarted by a fragment (R154, R155, R179). -/
def restartWatchdog (s : State) : State := { s with wdArmed := true }

/-- The way out of `AwaitingResponse` to `Complete` (R155): the frame has come in full. -/
def enterComplete (s : State) : State :=
  { unsubscribe s with done := true, wdArmed := false, sess := .complete }

/-- A way out of `AwaitingResponse` without a decode (R155, R157, R158): the watchdog is disarmed, the
subscription ended, and the tagged result carries every byte received. -/
def leaveAwaiting (dest : SessState) (t : TransmissionState) (s : State) : State :=
  { unsubscribe s with
    wdArmed := false, tstate := t, sess := dest, ret := .exchange (.result s.rx t Option.none) }

/-- A way out of `Sending` to a failure (R152, R153): nothing was received. -/
def leaveSending (dest : SessState) (t : TransmissionState) (s : State) : State :=
  { s with tstate := t, sess := dest, call := .none, ret := .exchange (.result [] t Option.none) }

/-- An exchange is in flight: `sess` is `Sending` or `AwaitingResponse` (R160). -/
def inFlight (s : State) : Bool :=
  match s.sess with
  | .sending => true
  | .awaitingResponse => true
  | .idle => false
  | .complete => false
  | .timedOut => false
  | .sendFailed => false
  | .cantUpdate => false
  | .receiveFailed => false

/-- The outcome of a rule that reads buffers through `memRead` and `memByte`. -/
def outcomeOf (r : Except Fault State) : Host.Outcome State Fault Refusal :=
  match r with
  | .ok s => .next s
  | .error f => .fault f

/-- An operation of the caller: refused while an exchange is in flight (R160, R202; log 22), its own effect
otherwise. -/
def callerOp (s : State) (r : Except Fault State) : Host.Outcome State Fault Refusal :=
  if inFlight s then .refused .exchangeInFlight else outcomeOf r

end Sys2Proof.Machine
end

