-- ==== Sys2Proof/Machine/CrcUnit.lean ====
section
/-! DEFINITION. The CRC unit's four operations (40_crc.md R101 to R104). -/

namespace Sys2Proof.Machine

/-- `CRC.INIT` (R101). -/
def execCrcInit (s : State) : Host.Outcome State Fault Refusal :=
  callerOp s (.ok (returning .nothing (setCrc Config.crcSeed s)))

/-- `CRC.BYTE b` (R102): continues from the current `crc` (R105(b)). -/
def execCrcByte (b : Byte) (s : State) : Host.Outcome State Fault Refusal :=
  callerOp s (.ok (returning .nothing (setCrc (crcStep s.crc b) s)))

/-- `CRC.OUT` (R103): `crc` is not changed. -/
def execCrcOut (s : State) : Host.Outcome State Fault Refusal :=
  callerOp s (.ok (returning (.crcPair (lowByte s.crc) (highByte s.crc)) s))

/-- `CRC16 s` (R104). -/
def execCrc16 (bytes : List Byte) (s : State) : Host.Outcome State Fault Refusal :=
  callerOp s (.ok (returning (.crcValue (crc16 bytes)) (setCrc (crc16 bytes) s)))

end Sys2Proof.Machine
end

