-- ==== Sys2Proof/WellFormed.lean ====
section
/-! DEFINITION. Which instruction terms stand for an encoding of the spec. The one relation between operands is
that of `RSP_READ` (30_encoding.md R72): byte 2 counts the data bytes. Every other operand value is legal
(R80(e)). -/

namespace Sys2Proof

/-- The data of a read response has as many bytes as byte 2 says (R72). -/
def readDataFits (n : Byte) (data : List Byte) : Bool := data.length == n.toNat

/-- The instruction is the image of an encoding. -/
def wellFormed (i : Instr) : Bool :=
  match i with
  | .reqReadCoil _ _ _ _ _ => true
  | .reqReadDigitalInput _ _ _ _ _ => true
  | .reqReadHoldingRegister _ _ _ _ _ => true
  | .reqReadInputRegister _ _ _ _ _ => true
  | .reqWriteCoil _ _ _ _ _ => true
  | .reqWriteHoldingRegister _ _ _ _ _ => true
  | .rspReadCoil _ n data _ _ => readDataFits n data
  | .rspReadDigitalInput _ n data _ _ => readDataFits n data
  | .rspReadHoldingRegister _ n data _ _ => readDataFits n data
  | .rspReadInputRegister _ n data _ _ => readDataFits n data
  | .rspWriteCoil _ _ _ _ _ _ _ => true
  | .rspWriteHoldingRegister _ _ _ _ _ _ _ => true
  | .rspExcReadCoil _ _ _ _ => true
  | .rspExcReadDigitalInput _ _ _ _ => true
  | .rspExcReadHoldingRegister _ _ _ _ => true
  | .rspExcReadInputRegister _ _ _ _ => true
  | .rspExcWriteCoil _ _ _ _ => true
  | .rspExcWriteHoldingRegister _ _ _ _ => true
  | .crcInit => true
  | .crcByte _ => true
  | .crcOut => true
  | .crc16 _ => true
  | .encode _ _ _ _ => true
  | .decode _ => true
  | .estArm => true
  | .estUpdate => true
  | .execute _ _ _ _ => true

end Sys2Proof
end

