-- ==== Sys2Proof/Decode.lean ====
section
/-! DEFINITION. From a raw invocation to an instruction, total and rejecting by name (30_encoding.md R70 to R74,
R79, R80, R82), the encoder, and the host's reading of one word of the opcode table. -/

namespace Sys2Proof

open Sys2Proof.Machine

/-- Operations of the command port by select code (R82); `0x9` to `0xF` are reserved. Each operation reads the
lines R82 names for it and no other. -/
def decodeCommand (op : BitVec 4) (x : OperandLines) : Except DecodeError Instr :=
  match op.toNat with
  | 0 => .ok .crcInit
  | 1 => .ok (.crcByte x.byte)
  | 2 => .ok .crcOut
  | 3 => .ok (.crc16 x.bytes)
  | 4 => .ok (.encode x.slave (functionOfNumber x.fn) x.addr x.tail)
  | 5 => .ok (.decode x.bytes)
  | 6 => .ok .estArm
  | 7 => .ok .estUpdate
  | 8 => .ok (.execute x.slave (functionOfNumber x.fn) x.addr x.tail)
  | _ => .error (.reservedOperation op)

/-- The `REQ.*` row of a function (R71). -/
def requestRow (t : FunctionType) (a r0 r1 t0 t1 : Byte) : Instr :=
  match t with
  | .readCoil => .reqReadCoil a r0 r1 t0 t1
  | .readDigitalInput => .reqReadDigitalInput a r0 r1 t0 t1
  | .readHoldingRegister => .reqReadHoldingRegister a r0 r1 t0 t1
  | .readInputRegister => .reqReadInputRegister a r0 r1 t0 t1
  | .writeCoil => .reqWriteCoil a r0 r1 t0 t1
  | .writeHoldingRegister => .reqWriteHoldingRegister a r0 r1 t0 t1

/-- A request frame (R71): 8 bytes, byte 1 a request code, the last two the CRC of the six before them. -/
def decodeRequest (w : List Byte) : Except DecodeError Instr :=
  match w with
  | [] => .error .frameTooShort
  | [_] => .error .frameTooShort
  | a :: fc :: rest =>
    match functionOfCode fc with
    | none => .error .unmappedFunction
    | some t =>
      match rest with
      | [r0, r1, t0, t1, c, d] =>
        if crcBytes (crc16 [a, fc, r0, r1, t0, t1]) = [c, d] then .ok (requestRow t a r0 r1 t0 t1)
        else .error .requestCrc
      | _ => if rest.length < 6 then .error .frameTooShort else .error .frameTooLong

/-- The `RSP_EXC.*` row of a function (R74). -/
def exceptionRow (t : FunctionType) (a e c d : Byte) : Instr :=
  match t with
  | .readCoil => .rspExcReadCoil a e c d
  | .readDigitalInput => .rspExcReadDigitalInput a e c d
  | .readHoldingRegister => .rspExcReadHoldingRegister a e c d
  | .readInputRegister => .rspExcReadInputRegister a e c d
  | .writeCoil => .rspExcWriteCoil a e c d
  | .writeHoldingRegister => .rspExcWriteHoldingRegister a e c d

/-- The response row of a request code whose bytes after byte 1 are `rest` (R72, R73). -/
def responseRow (t : FunctionType) (a : Byte) (rest : List Byte) : Except DecodeError Instr :=
  match t with
  | .writeCoil =>
    match rest with
    | [r0, r1, v0, v1, c, d] => .ok (.rspWriteCoil a r0 r1 v0 v1 c d)
    | _ => if rest.length < 6 then .error .frameTooShort else .error .frameTooLong
  | .writeHoldingRegister =>
    match rest with
    | [r0, r1, v0, v1, c, d] => .ok (.rspWriteHoldingRegister a r0 r1 v0 v1 c d)
    | _ => if rest.length < 6 then .error .frameTooShort else .error .frameTooLong
  | .readCoil => readRow .rspReadCoil
  | .readDigitalInput => readRow .rspReadDigitalInput
  | .readHoldingRegister => readRow .rspReadHoldingRegister
  | .readInputRegister => readRow .rspReadInputRegister
where
  /-- A read response (R72): `n`, then `n` data bytes, then the two CRC bytes. -/
  readRow (mk : Byte → Byte → List Byte → Byte → Byte → Instr) : Except DecodeError Instr :=
    match rest with
    | [] => .error .frameTooShort
    | n :: body =>
      match body.drop n.toNat with
      | [c, d] => .ok (mk a n (body.take n.toNat) c d)
      | more => if more.length < 2 then .error .frameTooShort else .error .frameTooLong

/-- A response frame (R72, R73, R74), dispatched on byte 1 as DEC does (R79, R120). Its CRC bytes are operands
of the row: DECODE is what compares them (R125). -/
def decodeResponse (w : List Byte) : Except DecodeError Instr :=
  match w with
  | [] => .error .frameTooShort
  | [_] => .error .frameTooShort
  | a :: fc :: rest =>
    match functionOfException fc with
    | some t =>
      match rest with
      | [e, c, d] => .ok (exceptionRow t a e c d)
      | _ => if rest.length < 3 then .error .frameTooShort else .error .frameTooLong
    | none =>
      match functionOfCode fc with
      | some t => responseRow t a rest
      | none => .error .unmappedFunction

/-- From a raw invocation to an instruction. -/
def decode (r : Raw) : Except DecodeError Instr :=
  match r with
  | .command op x => decodeCommand op x
  | .requestFrame w => decodeRequest w
  | .responseFrame w => decodeResponse w

/-- Operand lines with nothing on them. -/
def idleLines : OperandLines :=
  { byte := 0#8, bytes := [], slave := 0#8, fn := 0#3, addr := [], tail := [] }

/-- The request lines of `ENCODE` and `EXECUTE` (R82). -/
def requestLines (slave : Byte) (fn : FnSel) (addr tail : List Byte) : OperandLines :=
  { byte := 0#8, bytes := [], slave := slave, fn := functionNumber fn, addr := addr, tail := tail }

/-- A `REQ` frame (R71). -/
def requestBytes (t : FunctionType) (a r0 r1 t0 t1 : Byte) : List Byte :=
  withCrc [a, requestCode t, r0, r1, t0, t1]

/-- An `RSP_READ` frame (R72). -/
def readBytes (t : FunctionType) (a n : Byte) (data : List Byte) (c d : Byte) : List Byte :=
  a :: requestCode t :: n :: (data ++ [c, d])

/-- An `RSP_WRITE` frame (R73). -/
def writeBytes (t : FunctionType) (a r0 r1 v0 v1 c d : Byte) : List Byte :=
  [a, requestCode t, r0, r1, v0, v1, c, d]

/-- An `RSP_EXC` frame (R74). -/
def exceptionBytes (t : FunctionType) (a e c d : Byte) : List Byte :=
  [a, exceptionCode t, e, c, d]

/-- The raw invocation of an instruction, from the encoding strings of R71 to R74 and the codes of R82. -/
def encode (i : Instr) : Raw :=
  match i with
  | .reqReadCoil a r0 r1 t0 t1 => .requestFrame (requestBytes .readCoil a r0 r1 t0 t1)
  | .reqReadDigitalInput a r0 r1 t0 t1 => .requestFrame (requestBytes .readDigitalInput a r0 r1 t0 t1)
  | .reqReadHoldingRegister a r0 r1 t0 t1 => .requestFrame (requestBytes .readHoldingRegister a r0 r1 t0 t1)
  | .reqReadInputRegister a r0 r1 t0 t1 => .requestFrame (requestBytes .readInputRegister a r0 r1 t0 t1)
  | .reqWriteCoil a r0 r1 t0 t1 => .requestFrame (requestBytes .writeCoil a r0 r1 t0 t1)
  | .reqWriteHoldingRegister a r0 r1 t0 t1 => .requestFrame (requestBytes .writeHoldingRegister a r0 r1 t0 t1)
  | .rspReadCoil a n data c d => .responseFrame (readBytes .readCoil a n data c d)
  | .rspReadDigitalInput a n data c d => .responseFrame (readBytes .readDigitalInput a n data c d)
  | .rspReadHoldingRegister a n data c d => .responseFrame (readBytes .readHoldingRegister a n data c d)
  | .rspReadInputRegister a n data c d => .responseFrame (readBytes .readInputRegister a n data c d)
  | .rspWriteCoil a r0 r1 v0 v1 c d => .responseFrame (writeBytes .writeCoil a r0 r1 v0 v1 c d)
  | .rspWriteHoldingRegister a r0 r1 v0 v1 c d => .responseFrame (writeBytes .writeHoldingRegister a r0 r1 v0 v1 c d)
  | .rspExcReadCoil a e c d => .responseFrame (exceptionBytes .readCoil a e c d)
  | .rspExcReadDigitalInput a e c d => .responseFrame (exceptionBytes .readDigitalInput a e c d)
  | .rspExcReadHoldingRegister a e c d => .responseFrame (exceptionBytes .readHoldingRegister a e c d)
  | .rspExcReadInputRegister a e c d => .responseFrame (exceptionBytes .readInputRegister a e c d)
  | .rspExcWriteCoil a e c d => .responseFrame (exceptionBytes .writeCoil a e c d)
  | .rspExcWriteHoldingRegister a e c d => .responseFrame (exceptionBytes .writeHoldingRegister a e c d)
  | .crcInit => .command 0x0#4 idleLines
  | .crcByte b => .command 0x1#4 { idleLines with byte := b }
  | .crcOut => .command 0x2#4 idleLines
  | .crc16 bytes => .command 0x3#4 { idleLines with bytes := bytes }
  | .encode slave fn addr tail => .command 0x4#4 (requestLines slave fn addr tail)
  | .decode w => .command 0x5#4 { idleLines with bytes := w }
  | .estArm => .command 0x6#4 idleLines
  | .estUpdate => .command 0x7#4 idleLines
  | .execute slave fn addr tail => .command 0x8#4 (requestLines slave fn addr tail)

/-- The length of the frame that byte 1 selects, its other bytes zero (R70). -/
def zeroFrameLength (sel : Byte) : Nat :=
  match classify sel with
  | some (.exception _) => Config.rspExcLen
  | some (.write _) => Config.rspWriteLen
  | some (.read _) => Config.rspReadLen 0#8
  | none => 2

/-- The `count` lowest bytes of a number, the least significant first. -/
def bytesOfNat (count w : Nat) : List Byte :=
  match count with
  | 0 => []
  | k + 1 => BitVec.ofNat 8 w :: bytesOfNat k (w / 256)

/-- The raw invocation of one word of the opcode table. A table row gives only its selector: the select code of
an operation, or wire byte 1 of a frame, and the same number stands for an operation, a request and a response
(R70). DESIGN CHOICE (log 4): a word of one byte whose value is at most `0xF` is a select code with idle operand
lines; any other word is byte 1 of a response frame whose byte 0 is zero, the bytes after byte 1 being the
word's next bytes. -/
def tableRaw (nbits w : Nat) : Raw :=
  if nbits ≤ 8 && w < 16 then .command (BitVec.ofNat 4 w) idleLines
  else .responseFrame (0#8 :: bytesOfNat (zeroFrameLength (BitVec.ofNat 8 w) - 1) w)

/-- The instruction the decoder reads from one word of the opcode table. -/
def decodeTableWord (nbits w : Nat) : Option Instr :=
  match decode (tableRaw nbits w) with
  | .ok i => some i
  | .error _ => none

end Sys2Proof
end

