-- ==== Sys2Proof/Machine/Flags.lean ====
section
/-! DEFINITION. Every flag and predicate the rules compute (10_state.md R30): the estimate with its `latched`
flag (43_estimator.md R140, R141, R145), completion (R142), overshoot (R143), and the CRC comparison
(42_decode.md R125). The block has no arithmetic condition codes. -/

namespace Sys2Proof.Machine

/-- The estimate `EST.ARM` sets from the request's kind (R140). -/
def provisionalEstimate (k : RequestKind) : Word :=
  match k with
  | .requestWrite => BitVec.ofNat 16 Config.rspWriteLen
  | .requestRead => BitVec.ofNat 16 Config.rspReadProvisional

/-- The estimate of an exception response, always exactly 5 (R141 point (2)). -/
def exceptionEstimate : Word := BitVec.ofNat 16 Config.rspExcLen

/-- `3 + zext_16(n) + 2` (R141, R145). -/
def readEstimate (n : Byte) : Word := 3#16 + n.setWidth 16 + 2#16

/-- What `EST.UPDATE` leaves in `est` and `latched` (R141). -/
def refineEstimate (k : RequestKind) (rx : List Byte) (est : Word) (latched : Bool) :
    Except Fault (Word × Bool) :=
  if 3 ≤ rx.length ∧ latched = false then do
    let b1 ← memByte rx 1
    if Config.excThreshold < b1 then .ok (exceptionEstimate, true)
    else
      match k with
      | .requestRead => do
        let n ← memByte rx 2
        .ok (readEstimate n, true)
      | .requestWrite => .ok (est, latched)
  else .ok (est, latched)

/-- The completion predicate `rxLen = est` (R142). -/
def isComplete (s : State) : Bool := rxLen s == s.est.toNat

/-- The overshoot predicate `rxLen > est` (R143). -/
def isOvershoot (s : State) : Bool := decide (s.est.toNat < rxLen s)

/-- `crcOK` of R125: the computed CRC equals the value the trailing two bytes carry. -/
def crcMatches (computed : Word) (lo hi : Byte) : Bool := computed == wordOfBytes lo hi

end Sys2Proof.Machine
end

