-- ==== Sys2Proof/Machine/Operands.lean ====
section
/-! DEFINITION. Every operand form: the request operands (10_state.md R22), the request frame they make
(30_encoding.md R71), and the fields of a response frame (R72 to R74, R78). -/

namespace Sys2Proof.Machine

/-- The caller supplies the four request operands with the invocation (R22, R151, R201(3); log 25). -/
def loadRequest (slave : Byte) (fn : FnSel) (addr tail : List Byte) (s : State) : State :=
  { s with req := { slave := slave, fn := fn, addr := addr, tail := tail } }

/-- The request frame of R71: six payload bytes and their CRC, low byte first. -/
def requestFrame (t : FunctionType) (a r0 r1 t0 t1 : Byte) : TxFrame :=
  let c := crc16 [a, requestCode t, r0, r1, t0, t1]
  { slave := a, fc := requestCode t, addr0 := r0, addr1 := r1, tail0 := t0, tail1 := t1
    crcLo := lowByte c, crcHi := highByte c }

/-- The variant fields of an exception response (R121, R78(e)). -/
def exceptionBody (w : List Byte) : Except Fault RspBody := do
  let e ← memByte w 2
  .ok (.exception e (exceptionEntry e))

/-- The variant fields of a write response, two pairs in wire order (R122, R78(a)). -/
def writeBody (w : List Byte) : Except Fault RspBody := do
  let r0 ← memByte w 2
  let r1 ← memByte w 3
  let v0 ← memByte w 4
  let v1 ← memByte w 5
  .ok (.write (r0, r1) (v0, v1))

/-- The variant fields of a read response: the count and the slice `w[3 .. 3+n)` (R123, R78(b)(c)). -/
def readBody (w : List Byte) : Except Fault RspBody := do
  let n ← memByte w 2
  let data ← memRead w 3 n.toNat
  .ok (.read n data)

/-- The variant fields that a class selects. -/
def bodyOf (c : RspClass) (w : List Byte) : Except Fault RspBody :=
  match c with
  | .exception _ => exceptionBody w
  | .write _ => writeBody w
  | .read _ => readBody w

/-- The function type of a class (R121 to R123). -/
def functionOfClass (c : RspClass) : FunctionType :=
  match c with
  | .exception t => t
  | .write t => t
  | .read t => t

/-- Every field of `rsp` from an exact-length buffer (R121 to R123). -/
def fillRsp (c : RspClass) (w : List Byte) : Except Fault Rsp := do
  let slave ← memByte w 0
  let fc ← memByte w 1
  let body ← bodyOf c w
  let lo ← memByte w (w.length - 2)
  let hi ← memByte w (w.length - 1)
  .ok { slave := slave, fc := fc, fn := functionOfClass c, body := body, crcLo := lo, crcHi := hi, wire := w }

/-- `rsp.kind` (R26): determined by the variant. -/
def rspKind (r : Rsp) : FrameKind :=
  match r.body with
  | .read _ _ => .responseToRequest
  | .write _ _ => .responseToRequest
  | .exception _ _ => .responseException

/-- `rsp.excTitle` (R26, R77): a text, or absent. -/
def rspTitle (r : Rsp) : Option String :=
  match r.body with
  | .read _ _ => none
  | .write _ _ => none
  | .exception _ entry => entry.map entryTitle

/-- `rsp.excDesc` (R26, R77): a text, or absent. -/
def rspDescription (r : Rsp) : Option String :=
  match r.body with
  | .read _ _ => none
  | .write _ _ => none
  | .exception _ entry => entry.map entryDescription

end Sys2Proof.Machine
end

