-- ==== Sys2Proof/Machine/Decoder.lean ====
section
/-! DEFINITION. The frame decoder (42_decode.md R120 to R130) and the twelve `RSP_*` rows it parses (30_encoding.md
R72 to R74; log 3). -/

namespace Sys2Proof.Machine

/-- The three outcomes of `DECODE` (R120); the first two carry the CRC that was computed (R127). -/
inductive DecodeResult where
  | frame (r : Rsp) (computed : Word)
  | crcMismatch (computed : Word)
  | raised (f : CodecFault)
deriving DecidableEq, Repr

/-- The exact-length check: shorter first, then longer (R124, R127). -/
def exactLength (w : List Byte) (need : Nat) (c : RspClass) : Except CodecFault RspClass :=
  if w.length < need then .error (.malformedFrame .tooShort)
  else if need < w.length then .error (.malformedFrame .tooLong)
  else .ok c

/-- Every check of R127 before the CRC, in its order: long enough to classify, mapped, exact length. -/
def checkFrame (w : List Byte) : Except Fault (Except CodecFault RspClass) :=
  if w.length < 2 then .ok (.error (.malformedFrame .tooShort))
  else do
    let c1 ← memByte w 1
    match classify c1 with
    | none => .ok (.error (.invalidParameter .unmappedFunction))
    | some (.exception t) => .ok (exactLength w Config.rspExcLen (.exception t))
    | some (.write t) => .ok (exactLength w Config.rspWriteLen (.write t))
    | some (.read t) =>
      if w.length < 3 then .ok (.error (.malformedFrame .tooShort))
      else do
        let n ← memByte w 2
        .ok (exactLength w (Config.rspReadLen n) (.read t))

/-- The CRC check and the fill of an exact-length buffer (R125, R127). -/
def decodeExact (c : RspClass) (w : List Byte) : Except Fault DecodeResult := do
  let covered ← memRead w 0 (w.length - 2)
  let lo ← memByte w (w.length - 2)
  let hi ← memByte w (w.length - 1)
  if crcMatches (crc16 covered) lo hi then do
    let r ← fillRsp c w
    .ok (.frame r (crc16 covered))
  else .ok (.crcMismatch (crc16 covered))

/-- The outcome of `DECODE w`, a function of `w` alone (R127, R129(a)). -/
def decodeResult (w : List Byte) : Except Fault DecodeResult := do
  let checked ← checkFrame w
  match checked with
  | .error f => .ok (.raised f)
  | .ok c => decodeExact c w

/-- What `DECODE` writes for each outcome (R120, R127). -/
def applyDecode (d : DecodeResult) (s : State) : State :=
  match d with
  | .frame r computed =>
    { setCrc computed s with rsp := some r, rspValid := true, fault := .none, ret := .frame r }
  | .crcMismatch computed =>
    { dropRsp (setCrc computed s) with fault := .none, ret := .crcMismatch }
  | .raised f => raiseCodec .dec f s

/-- `DECODE w` as one transition of the block (R127). -/
def decodeUnit (w : List Byte) (s : State) : Except Fault State := do
  let d ← decodeResult w
  .ok (applyDecode d s)

/-- `DECODE`. -/
def execDecode (w : List Byte) (s : State) : Host.Outcome State Fault Refusal :=
  callerOp s (decodeUnit w s)

/-- `RSP_READ.ReadCoil` (R72, R123). -/
def execRspReadCoil (a n : Byte) (data : List Byte) (c d : Byte) (s : State) :
    Host.Outcome State Fault Refusal :=
  callerOp s (decodeUnit (a :: requestCode .readCoil :: n :: (data ++ [c, d])) s)

/-- `RSP_READ.ReadDigitalInput` (R72, R123). -/
def execRspReadDigitalInput (a n : Byte) (data : List Byte) (c d : Byte) (s : State) :
    Host.Outcome State Fault Refusal :=
  callerOp s (decodeUnit (a :: requestCode .readDigitalInput :: n :: (data ++ [c, d])) s)

/-- `RSP_READ.ReadHoldingRegister` (R72, R123). -/
def execRspReadHoldingRegister (a n : Byte) (data : List Byte) (c d : Byte) (s : State) :
    Host.Outcome State Fault Refusal :=
  callerOp s (decodeUnit (a :: requestCode .readHoldingRegister :: n :: (data ++ [c, d])) s)

/-- `RSP_READ.ReadInputRegister` (R72, R123). -/
def execRspReadInputRegister (a n : Byte) (data : List Byte) (c d : Byte) (s : State) :
    Host.Outcome State Fault Refusal :=
  callerOp s (decodeUnit (a :: requestCode .readInputRegister :: n :: (data ++ [c, d])) s)

/-- `RSP_WRITE.WriteCoil` (R73, R122). -/
def execRspWriteCoil (a r0 r1 v0 v1 c d : Byte) (s : State) : Host.Outcome State Fault Refusal :=
  callerOp s (decodeUnit [a, requestCode .writeCoil, r0, r1, v0, v1, c, d] s)

/-- `RSP_WRITE.WriteHoldingRegister` (R73, R122). -/
def execRspWriteHoldingRegister (a r0 r1 v0 v1 c d : Byte) (s : State) :
    Host.Outcome State Fault Refusal :=
  callerOp s (decodeUnit [a, requestCode .writeHoldingRegister, r0, r1, v0, v1, c, d] s)

/-- `RSP_EXC.ReadCoil` (R74, R121). -/
def execRspExcReadCoil (a e c d : Byte) (s : State) : Host.Outcome State Fault Refusal :=
  callerOp s (decodeUnit [a, exceptionCode .readCoil, e, c, d] s)

/-- `RSP_EXC.ReadDigitalInput` (R74, R121). -/
def execRspExcReadDigitalInput (a e c d : Byte) (s : State) : Host.Outcome State Fault Refusal :=
  callerOp s (decodeUnit [a, exceptionCode .readDigitalInput, e, c, d] s)

/-- `RSP_EXC.ReadHoldingRegister` (R74, R121). -/
def execRspExcReadHoldingRegister (a e c d : Byte) (s : State) : Host.Outcome State Fault Refusal :=
  callerOp s (decodeUnit [a, exceptionCode .readHoldingRegister, e, c, d] s)

/-- `RSP_EXC.ReadInputRegister` (R74, R121). -/
def execRspExcReadInputRegister (a e c d : Byte) (s : State) : Host.Outcome State Fault Refusal :=
  callerOp s (decodeUnit [a, exceptionCode .readInputRegister, e, c, d] s)

/-- `RSP_EXC.WriteCoil` (R74, R121). -/
def execRspExcWriteCoil (a e c d : Byte) (s : State) : Host.Outcome State Fault Refusal :=
  callerOp s (decodeUnit [a, exceptionCode .writeCoil, e, c, d] s)

/-- `RSP_EXC.WriteHoldingRegister` (R74, R121). -/
def execRspExcWriteHoldingRegister (a e c d : Byte) (s : State) : Host.Outcome State Fault Refusal :=
  callerOp s (decodeUnit [a, exceptionCode .writeHoldingRegister, e, c, d] s)

end Sys2Proof.Machine
end

