-- ==== Sys2Proof/Machine/Encoder.lean ====
section
/-! DEFINITION. The frame encoder (41_encode.md R110 to R115) and the six `REQ.*` rows it builds (30_encoding.md
R71; log 3). -/

namespace Sys2Proof.Machine

/-- A successful `ENCODE` writes the frame, its kind and function, and leaves the CRC unit holding the CRC
(R111). -/
def writeTx (t : FunctionType) (f : TxFrame) (s : State) : State :=
  { setCrc (wordOfBytes f.crcLo f.crcHi) s with
    tx := f, txKind := requestKind t, txFn := t, txValid := true, fault := .none, ret := .encoded f }

/-- `ENCODE` on the request registers (R111): the function is checked before the widths (R112). -/
def encodeUnit (s : State) : Except Fault State :=
  match mappedFunction s.req.fn with
  | none => .ok (raiseCodec .enc (.invalidParameter .unmappedFunction) s)
  | some t =>
    if s.req.addr.length ≠ Config.paramLen then .ok (raiseCodec .enc (.invalidParameter .badWidth) s)
    else if s.req.tail.length ≠ Config.paramLen then .ok (raiseCodec .enc (.invalidParameter .badWidth) s)
    else do
      let r0 ← memByte s.req.addr 0
      let r1 ← memByte s.req.addr 1
      let t0 ← memByte s.req.tail 0
      let t1 ← memByte s.req.tail 1
      .ok (writeTx t (requestFrame t s.req.slave r0 r1 t0 t1) s)

/-- `ENCODE` with its operands (R110, R201(3)). -/
def encodeWith (slave : Byte) (fn : FnSel) (addr tail : List Byte) (s : State) : Except Fault State :=
  encodeUnit (loadRequest slave fn addr tail s)

/-- `ENCODE`. -/
def execEncode (slave : Byte) (fn : FnSel) (addr tail : List Byte) (s : State) :
    Host.Outcome State Fault Refusal :=
  callerOp s (encodeWith slave fn addr tail s)

/-- `REQ.ReadCoil` (R71, R111). -/
def execReqReadCoil (a r0 r1 t0 t1 : Byte) (s : State) : Host.Outcome State Fault Refusal :=
  callerOp s (encodeWith a (.fn .readCoil) [r0, r1] [t0, t1] s)

/-- `REQ.ReadDigitalInput` (R71, R111). -/
def execReqReadDigitalInput (a r0 r1 t0 t1 : Byte) (s : State) : Host.Outcome State Fault Refusal :=
  callerOp s (encodeWith a (.fn .readDigitalInput) [r0, r1] [t0, t1] s)

/-- `REQ.ReadHoldingRegister` (R71, R111). -/
def execReqReadHoldingRegister (a r0 r1 t0 t1 : Byte) (s : State) : Host.Outcome State Fault Refusal :=
  callerOp s (encodeWith a (.fn .readHoldingRegister) [r0, r1] [t0, t1] s)

/-- `REQ.ReadInputRegister` (R71, R111). -/
def execReqReadInputRegister (a r0 r1 t0 t1 : Byte) (s : State) : Host.Outcome State Fault Refusal :=
  callerOp s (encodeWith a (.fn .readInputRegister) [r0, r1] [t0, t1] s)

/-- `REQ.WriteCoil` (R71, R111). -/
def execReqWriteCoil (a r0 r1 t0 t1 : Byte) (s : State) : Host.Outcome State Fault Refusal :=
  callerOp s (encodeWith a (.fn .writeCoil) [r0, r1] [t0, t1] s)

/-- `REQ.WriteHoldingRegister` (R71, R111). -/
def execReqWriteHoldingRegister (a r0 r1 t0 t1 : Byte) (s : State) : Host.Outcome State Fault Refusal :=
  callerOp s (encodeWith a (.fn .writeHoldingRegister) [r0, r1] [t0, t1] s)

end Sys2Proof.Machine
end

