-- ==== Sys2Proof/Machine/Estimator.lean ====
section
/-! DEFINITION. The expected-size estimator (43_estimator.md R140, R141). -/

namespace Sys2Proof.Machine

/-- `EST.ARM` on the state (R140). -/
def armEstimate (s : State) : State :=
  { s with est := provisionalEstimate s.txKind, latched := false }

/-- The estimator registers after an update. -/
def setEstimate (e : Word × Bool) (s : State) : State := { s with est := e.1, latched := e.2 }

/-- `EST.UPDATE` on the state (R141). -/
def updateEstimate (s : State) : Except Fault State := do
  let e ← refineEstimate s.txKind s.rx s.est s.latched
  .ok (setEstimate e s)

/-- `EST.ARM`. -/
def execEstArm (s : State) : Host.Outcome State Fault Refusal :=
  callerOp s (.ok (returning .nothing (armEstimate s)))

/-- `EST.UPDATE`. -/
def execEstUpdate (s : State) : Host.Outcome State Fault Refusal :=
  callerOp s (updateEstimate (returning .nothing s))

end Sys2Proof.Machine
end

