-- ==== Sys2Proof/Machine/Session.lean ====
section
/-! DEFINITION. The transport session (44_session.md R150 to R166): `EXECUTE`, the steps of an exchange that the
outside agents take, and reset (70_reset_and_hazards.md R200). A move outside its precondition changes nothing
(60_exceptions.md R174). -/

namespace Sys2Proof.Machine

/-- The first transport call of an exchange: the notification check, or under `NOTIFY_CHECK_FIRST = false` the
write (R152, D19). -/
def firstCall (p : Params) : PendingCall := if p.notifyCheckFirst then .supportsNotifications else .write

/-- After `ENCODE` inside `EXECUTE` (R151): a codec fault ends the exchange in `Idle` with nothing sent,
otherwise the session is `Sending` and its first transport call is outstanding (R152, R153). -/
def afterEncode (s : State) : State :=
  if s.fault = .none then
    { s with sess := .sending, call := firstCall s.cfg, ret := .nothing }
  else { s with ret := .exchange (.codecFault s.fault []) }

/-- The start of an exchange (R151). -/
def startExchange (slave : Byte) (fn : FnSel) (addr tail : List Byte) (s : State) : Except Fault State := do
  let s' ← encodeWith slave fn addr tail (freshIdle s)
  .ok (afterEncode s')

/-- `EXECUTE`. -/
def execExecute (slave : Byte) (fn : FnSel) (addr tail : List Byte) (s : State) :
    Host.Outcome State Fault Refusal :=
  callerOp s (startExchange slave fn addr tail s)

/-- Arming (R154): estimate, watchdog, subscription and state change in one transition. -/
def armExchange (s : State) : State :=
  { subscribe (restartWatchdog (armEstimate s)) with sess := .awaitingResponse, call := .none }

/-- The transport answers `supportsNotifications` (R152). With `NOTIFY_CHECK_FIRST` the write is next, without it
the write has succeeded already. -/
def onNotify (answer : Bool) (s : State) : State :=
  if s.sess = .sending ∧ s.call = .supportsNotifications then
    let s1 := transportCall .supportsNotifications s
    if answer then
      if s.cfg.notifyCheckFirst then { s1 with call := .write } else armExchange s1
    else leaveSending .cantUpdate .characteristicCantUpdate s1
  else s

/-- The transport answers `write` (R153): the same frame is offered at most twice. -/
def onWrite (answer : Bool) (s : State) : State :=
  if s.sess = .sending ∧ s.call = .write then
    let s1 := { transportCall (.write s.tx) s with writeTries := if s.writeTries = 0 then 1 else 2 }
    if answer then
      if s.cfg.notifyCheckFirst then armExchange s1 else { s1 with call := .supportsNotifications }
    else if s.writeTries = 0 then s1
    else leaveSending .sendFailed .errorSendMessage s1
  else s

/-- The tagged end of a completed exchange for each outcome of `DECODE` (R156). -/
def completionOf (d : DecodeResult) (s : State) : State :=
  match d with
  | .frame r _ => { s with tstate := .ok, ret := .exchange (.result s.rx .ok (some r)) }
  | .crcMismatch _ => { s with tstate := .errorCRC, ret := .exchange (.result s.rx .errorCRC Option.none) }
  | .raised f => { s with ret := .exchange (.codecFault f s.rx) }

/-- Completion (R155, R156): the subscription ends, the buffer is decoded, the result returned. One transition
with the fragment that completes the frame (log 20). -/
def completeExchange (s : State) : Except Fault State := do
  let s1 := enterComplete s
  let d ← decodeResult s1.rx
  .ok (completionOf d (applyDecode d s1))

/-- Overshoot (R143, R155): the exchange ends with every received byte, or under
`OVERSHOOT_REPORT = WaitForTimeout` waits for the watchdog (R5, D17; log 11). -/
def overshootExchange (s : State) : State :=
  match s.cfg.overshootReport with
  | .errorReceiveMessage => leaveAwaiting .receiveFailed .errorReceiveMessage { s with overshoot := true }
  | .waitForTimeout => { s with overshoot := true }

/-- The comparisons after the estimator update: overshoot before completion (R155, R175(b)). -/
def settleFragment (s : State) : Except Fault State :=
  if isOvershoot s then .ok (overshootExchange s)
  else if isComplete s then completeExchange s
  else .ok s

/-- A fragment inside its precondition (R155): append, restart the watchdog, update the estimate, compare. -/
def fragmentStep (f : List Byte) (s : State) : Except Fault State := do
  let s1 ← updateEstimate (restartWatchdog (rxAppend f s))
  settleFragment s1

/-- The peer delivers a fragment (R155): outside the precondition it is discarded. -/
def onFragment (f : List Byte) (s : State) : Except Fault State :=
  if s.sess = .awaitingResponse ∧ s.subscribed = true then fragmentStep f s else .ok s

/-- The watchdog fires (R157). -/
def onWatchdog (s : State) : State :=
  if s.sess = .awaitingResponse ∧ s.wdArmed = true then leaveAwaiting .timedOut .timeout s else s

/-- The transport disconnects (R158). -/
def onDisconnect (s : State) : State :=
  if s.sess = .awaitingResponse then leaveAwaiting .receiveFailed s.cfg.disconnectState s else s

/-- Reset (R36, R200): every state element takes its reset value. What lies outside the block stays: the calls
made, the fault log, the moves to come, the parameters (log 24, 29). -/
def onReset (s : State) : State :=
  { State.reset with calls := s.calls, faultLog := s.faultLog, inbox := s.inbox, cfg := s.cfg }

/-- An invocation that is no row of the table (log 5). Bytes on the response side that make no frame are what
`DECODE` faults (R80(a), R124, R126); a reserved select code is refused (R82), and so are bytes that are no
request frame, which the block never parses (R4). -/
def onUndecodable (r : Raw) (e : DecodeError) (s : State) : Host.Outcome State Fault Refusal :=
  match r with
  | .responseFrame w => callerOp s (decodeUnit w s)
  | .command _ _ => .refused (.undecodable e)
  | .requestFrame _ => .refused (.undecodable e)

end Sys2Proof.Machine
end

