-- ==== Sys2Proof/Machine/Dispatch.lean ====
section
/-! DEFINITION. One arm per constructor of Instr, in the order of spec/opcode_table.json. -/

namespace Sys2Proof.Machine

def exec (i : Instr) (s : State) : Host.Outcome State Fault Refusal :=
  match i with
  | .reqReadCoil a r0 r1 t0 t1 => Sys2Proof.Machine.execReqReadCoil a r0 r1 t0 t1 s
  | .reqReadDigitalInput a r0 r1 t0 t1 => Sys2Proof.Machine.execReqReadDigitalInput a r0 r1 t0 t1 s
  | .reqReadHoldingRegister a r0 r1 t0 t1 => Sys2Proof.Machine.execReqReadHoldingRegister a r0 r1 t0 t1 s
  | .reqReadInputRegister a r0 r1 t0 t1 => Sys2Proof.Machine.execReqReadInputRegister a r0 r1 t0 t1 s
  | .reqWriteCoil a r0 r1 t0 t1 => Sys2Proof.Machine.execReqWriteCoil a r0 r1 t0 t1 s
  | .reqWriteHoldingRegister a r0 r1 t0 t1 => Sys2Proof.Machine.execReqWriteHoldingRegister a r0 r1 t0 t1 s
  | .rspReadCoil a n data c d => Sys2Proof.Machine.execRspReadCoil a n data c d s
  | .rspReadDigitalInput a n data c d => Sys2Proof.Machine.execRspReadDigitalInput a n data c d s
  | .rspReadHoldingRegister a n data c d => Sys2Proof.Machine.execRspReadHoldingRegister a n data c d s
  | .rspReadInputRegister a n data c d => Sys2Proof.Machine.execRspReadInputRegister a n data c d s
  | .rspWriteCoil a r0 r1 v0 v1 c d => Sys2Proof.Machine.execRspWriteCoil a r0 r1 v0 v1 c d s
  | .rspWriteHoldingRegister a r0 r1 v0 v1 c d => Sys2Proof.Machine.execRspWriteHoldingRegister a r0 r1 v0 v1 c d s
  | .rspExcReadCoil a e c d => Sys2Proof.Machine.execRspExcReadCoil a e c d s
  | .rspExcReadDigitalInput a e c d => Sys2Proof.Machine.execRspExcReadDigitalInput a e c d s
  | .rspExcReadHoldingRegister a e c d => Sys2Proof.Machine.execRspExcReadHoldingRegister a e c d s
  | .rspExcReadInputRegister a e c d => Sys2Proof.Machine.execRspExcReadInputRegister a e c d s
  | .rspExcWriteCoil a e c d => Sys2Proof.Machine.execRspExcWriteCoil a e c d s
  | .rspExcWriteHoldingRegister a e c d => Sys2Proof.Machine.execRspExcWriteHoldingRegister a e c d s
  | .crcInit => Sys2Proof.Machine.execCrcInit s
  | .crcByte b => Sys2Proof.Machine.execCrcByte b s
  | .crcOut => Sys2Proof.Machine.execCrcOut s
  | .crc16 bytes => Sys2Proof.Machine.execCrc16 bytes s
  | .encode slave fn addr tail => Sys2Proof.Machine.execEncode slave fn addr tail s
  | .decode w => Sys2Proof.Machine.execDecode w s
  | .estArm => Sys2Proof.Machine.execEstArm s
  | .estUpdate => Sys2Proof.Machine.execEstUpdate s
  | .execute slave fn addr tail => Sys2Proof.Machine.execExecute slave fn addr tail s

end Sys2Proof.Machine
end

