-- ==== Sys2Proof/Machine/Step.lean ====
section
/-! DEFINITION. One step of the machine: the oldest outside move is taken (10_state.md R20, 20_memory.md R56). With
none the block waits and nothing changes (70_reset_and_hazards.md R200; log 1). -/

namespace Sys2Proof.Machine

/-- An invocation: decoded and executed, or handled by name where it is no row of the table. -/
def invoke (r : Raw) (s : State) : Host.Outcome State Fault Refusal :=
  match decode r with
  | .ok i => exec i s
  | .error e => onUndecodable r e s

/-- One outside move. -/
def handle (e : Event) (s : State) : Host.Outcome State Fault Refusal :=
  match e with
  | .invoke r => invoke r s
  | .notify answer => .next (onNotify answer s)
  | .write answer => .next (onWrite answer s)
  | .fragment f => outcomeOf (onFragment f s)
  | .watchdog => .next (onWatchdog s)
  | .disconnect => .next (onDisconnect s)
  | .reset => .next (onReset s)

/-- One step. -/
def step (s : State) : Host.Outcome State Fault Refusal :=
  match s.inbox with
  | [] => .next s
  | e :: rest => handle e (withInbox rest s)

/-- The state whose next move is the invocation of one word of the opcode table (log 4). -/
def State.withFetchWord (s : State) (nbits w : Nat) : State :=
  { s with inbox := .invoke (tableRaw nbits w) :: s.inbox }

end Sys2Proof.Machine
end

