-- ==== Sys2Proof/Safety.lean ====
section
/-! DEFINITION. What the claims are stated in: terminal session states (44_session.md R150, 70_reset_and_hazards.md
R210), correct frames (10_state.md R27), and the invariant that every step keeps. -/

namespace Sys2Proof.Machine

/-- The five terminal states (R150). -/
def isTerminal (s : SessState) : Bool :=
  match s with
  | .complete => true
  | .timedOut => true
  | .sendFailed => true
  | .cantUpdate => true
  | .receiveFailed => true
  | .idle => false
  | .sending => false
  | .awaitingResponse => false

/-- A response frame is `Correct` (R27): `wireBytes = payloadBytes ++ crc`, the CRC is the CRC of the payload, low
byte first, and `rsp.crc` are those two bytes. -/
def rspCorrect (r : Rsp) : Prop :=
  ∃ payload, r.wire = withCrc payload ∧ [r.crcLo, r.crcHi] = crcBytes (crc16 payload)

/-- The request frame register after a successful `ENCODE` (R27, R113(b)(d)): `tx` is the frame of its own
fields, and its kind is the kind of its function. -/
def txCorrect (s : State) : Prop :=
  s.tx = requestFrame s.txFn s.tx.slave s.tx.addr0 s.tx.addr1 s.tx.tail0 s.tx.tail1 ∧
    s.txKind = requestKind s.txFn

/-- The result tag that belongs to each session state (R150, R159, R172). -/
def tagFits (s : State) : Prop :=
  match s.sess with
  | .idle => s.tstate = .none
  | .sending => s.tstate = .none
  | .awaitingResponse => s.tstate = .none
  | .complete => s.tstate = .ok ∨ s.tstate = .errorCRC ∨ s.tstate = .none
  | .timedOut => s.tstate = .timeout
  | .sendFailed => s.tstate = .errorSendMessage
  | .cantUpdate => s.tstate = .characteristicCantUpdate
  | .receiveFailed => s.tstate = .errorReceiveMessage ∨ s.tstate = s.cfg.disconnectState

/-- The invariant of the machine. Each field holds at reset and after every step from a state where all hold. -/
structure StateInv (s : State) : Prop where
  /-- No CRC repetition is counted between operations (R34). -/
  bitcntZero : s.bitcnt = 0#4
  /-- A valid request register holds a correct request (R27). -/
  txFits : s.txValid = true → txCorrect s
  /-- `rspValid` says whether a frame is exposed (R26, R120). -/
  rspShown : s.rspValid = s.rsp.isSome
  /-- An exposed response is `Correct` (R27). -/
  rspFits : ∀ r, s.rsp = some r → rspCorrect r
  /-- The watchdog is armed exactly while the session waits (R154, R157, R176). -/
  watchdogFits : s.wdArmed = decide (s.sess = .awaitingResponse)
  /-- The subscription stands exactly while the session waits (R154, R164). -/
  subscriptionFits : s.subscribed = decide (s.sess = .awaitingResponse)
  /-- `done` is set exactly in `Complete` (R30, R155). -/
  doneFits : s.done = decide (s.sess = .complete)
  /-- Without `WaitForTimeout` an overshoot has ended its exchange (R143, R155). -/
  overshootFits : s.overshoot = true → s.cfg.overshootReport = .errorReceiveMessage → s.sess = .receiveFailed
  /-- The result tag fits the session state (R159). -/
  tagsFit : tagFits s
  /-- A transport call is outstanding exactly in `Sending` (R152, R153). -/
  callFits : s.call ≠ .none ↔ s.sess = .sending
  /-- An exchange in flight has its encoded request (R151). -/
  requestReady : inFlight s = true → s.txValid = true
  /-- Nothing is received before the session waits (R151, R154). -/
  nothingYet : s.sess = .sending → s.rx = []
  /-- `est` never exceeds the longest frame (R144(c)). -/
  estBound : s.est.toNat ≤ Config.rspMaxLen
  /-- While the session waits the estimate is at least the provisional 3 (R144(b)). -/
  estFloor : s.sess = .awaitingResponse → 3 ≤ s.est.toNat
  /-- While the session waits the estimate is up to date: another `EST.UPDATE` changes nothing (R144(a)). -/
  estSettled : s.sess = .awaitingResponse →
    refineEstimate s.txKind s.rx s.est s.latched = .ok (s.est, s.latched)
  /-- While the session waits fewer bytes have come than the estimate, unless an overshoot waits for the watchdog
  (R142, R143). -/
  notYetComplete : s.sess = .awaitingResponse →
    rxLen s < s.est.toNat ∨ (s.overshoot = true ∧ s.est.toNat < rxLen s)

end Sys2Proof.Machine
end

