-- ==== Sys2Proof/Certificates/Slice0/Obligations.lean ====
section
/-! DEFINITION. The statements for the provers. Each is about the machine for every state and operand that meets
its hypotheses; `inFlight s = false` is the condition under which the block accepts an operation (44_session.md
R160). The fields `ret`, `calls`, `call`, `inbox`, `cfg` and `faultLog` are the model's own, not the spec's (log 1, 9,
10, 11, 13, 14, 29): where a statement names one, that clause is the model's choice. -/

open Sys2Proof Sys2Proof.Machine

/-! Encoding and the constant tables. -/

/-- DECODE AND ENCODE AGREE (30_encoding.md R70 to R74, R82): every well-formed instruction, with every operand
value its encoding admits, is read back from its encoding. -/
def Obligations.DecodeOfEncodeIsTheInstruction : Prop :=
  ∀ i : Instr, wellFormed i = true → decode (encode i) = .ok i

/-- No byte of a frame is dropped (R71 to R74): a frame that decodes is the encoding of what it decodes to. -/
def Obligations.EncodeOfDecodedFrameIsTheFrame : Prop :=
  ∀ (w : List Byte) (i : Instr),
    (decode (.requestFrame w) = .ok i → encode i = .requestFrame w) ∧
    (decode (.responseFrame w) = .ok i → encode i = .responseFrame w)

/-- The decoder gives only well-formed instructions (R72). -/
def Obligations.DecodedInstructionIsWellFormed : Prop :=
  ∀ (r : Raw) (i : Instr), decode r = .ok i → wellFormed i = true

/-- Words written out from the spec's encodings decode to the instructions they stand for: one of each format
(R71 to R74, R82; the bytes are those of R115, R130 and 95_test_vectors.md). -/
def Obligations.SpecWordsDecode : Prop :=
  decode (.requestFrame [0x01, 0x03, 0x00, 0x6B, 0x00, 0x03, 0x74, 0x17]) =
      .ok (.reqReadHoldingRegister 0x01 0x00 0x6B 0x00 0x03) ∧
  decode (.responseFrame [0x01, 0x03, 0x02, 0x12, 0x34, 0xB5, 0x33]) =
      .ok (.rspReadHoldingRegister 0x01 0x02 [0x12, 0x34] 0xB5 0x33) ∧
  decode (.responseFrame [0x01, 0x05, 0x00, 0xAC, 0xFF, 0x00, 0x4C, 0x1B]) =
      .ok (.rspWriteCoil 0x01 0x00 0xAC 0xFF 0x00 0x4C 0x1B) ∧
  decode (.responseFrame [0x01, 0x83, 0x02, 0xC0, 0xF1]) =
      .ok (.rspExcReadHoldingRegister 0x01 0x02 0xC0 0xF1) ∧
  decode (.command 0x1#4 { idleLines with byte := 0xAE }) = .ok (.crcByte 0xAE) ∧
  decode (.command 0x8#4 { idleLines with slave := 0x01, fn := 4#3, addr := [0x00, 0x6B], tail := [0x00, 0x03] }) =
      .ok (.execute 0x01 (.fn .readHoldingRegister) [0x00, 0x6B] [0x00, 0x03])

/-- Select codes `0x9` to `0xF` are reserved and refused, whatever the operand lines carry (R82). -/
def Obligations.ReservedSelectCodesAreRefused : Prop :=
  ∀ (s : State) (op : BitVec 4) (x : OperandLines) (rest : List Event),
    9 ≤ op.toNat → s.inbox = .invoke (.command op x) :: rest →
    step s = .refused (.undecodable (.reservedOperation op))

/-- The function table and the exception function codes (R75, R76): the six codes, the two mappings inverse to
each other, `FT` undefined outside 1 to 6, class, request kind and response format of each function,
`EXC(t) = FC(t) + 128` without overflow, the same as setting bit 7, and its inverse on 129 to 134. -/
def Obligations.FunctionTableIsABijection : Prop :=
  [requestCode .readCoil, requestCode .writeCoil, requestCode .readDigitalInput, requestCode .readInputRegister,
    requestCode .readHoldingRegister, requestCode .writeHoldingRegister] = [1#8, 5#8, 2#8, 4#8, 3#8, 6#8] ∧
  (∀ t, functionOfCode (requestCode t) = some t) ∧
  (∀ c t, functionOfCode c = some t → requestCode t = c) ∧
  (∀ c : Byte, (functionOfCode c).isSome = true ↔ 1 ≤ c.toNat ∧ c.toNat ≤ 6) ∧
  (∀ t, requestKind t = if t = .writeCoil ∨ t = .writeHoldingRegister then .requestWrite else .requestRead) ∧
  (∀ t, classify (requestCode t) =
    if t = .writeCoil ∨ t = .writeHoldingRegister then some (.write t) else some (.read t)) ∧
  (∀ t, (exceptionCode t).toNat = (requestCode t).toNat + 128) ∧
  (∀ t, exceptionCode t = requestCode t ||| 0x80#8) ∧
  (∀ t, functionOfException (exceptionCode t) = some t) ∧
  (∀ c t, functionOfException c = some t → exceptionCode t = c) ∧
  (∀ c : Byte, (functionOfException c).isSome = true ↔ 129 ≤ c.toNat ∧ c.toNat ≤ 134)

/-- The whole space of byte 1 as the decoder sees it (R79). -/
def Obligations.ByteOneIsClassified : Prop :=
  ∀ c : Byte, classify c =
    if c = 1#8 then some (.read .readCoil)
    else if c = 2#8 then some (.read .readDigitalInput)
    else if c = 3#8 then some (.read .readHoldingRegister)
    else if c = 4#8 then some (.read .readInputRegister)
    else if c = 5#8 then some (.write .writeCoil)
    else if c = 6#8 then some (.write .writeHoldingRegister)
    else if c = 129#8 then some (.exception .readCoil)
    else if c = 130#8 then some (.exception .readDigitalInput)
    else if c = 131#8 then some (.exception .readHoldingRegister)
    else if c = 132#8 then some (.exception .readInputRegister)
    else if c = 133#8 then some (.exception .writeCoil)
    else if c = 134#8 then some (.exception .writeHoldingRegister)
    else none

/-- The exception-code table has an entry for 1 to 8, 10 and 11 and for no other code, each its own, and the
title of code 2 is the source's (R77). -/
def Obligations.ExceptionTableHasTenEntries : Prop :=
  (∀ e : Byte, (exceptionEntry e).isSome = true ↔
    (1 ≤ e.toNat ∧ e.toNat ≤ 8) ∨ e.toNat = 10 ∨ e.toNat = 11) ∧
  (∀ e e' : Byte, (exceptionEntry e).isSome = true → exceptionEntry e = exceptionEntry e' → e = e') ∧
  (exceptionEntry 2#8).map entryTitle = some "Illegal Data Address"

/-! The CRC unit. -/

/-- `CRC.INIT` (R101), select code `0x0`: `crc <- 0xFFFF`, and it leaves everything else as it is: `bitcnt`
is zero between operations (R34), and `ret` is the model's own field (log 14). -/
def Obligations.CrcInitLoadsTheSeed : Prop :=
  (∀ x : OperandLines, decode (.command 0x0#4 x) = .ok .crcInit) ∧
  ∀ s : State, inFlight s = false →
    ∃ r, exec .crcInit s = .next { s with crc := 0xFFFF#16, bitcnt := 0#4, ret := r }

/-- `CRC.BYTE b` (R102), select code `0x1`: XOR into the low byte, then eight times a right shift, followed by an
XOR with `0xA001` when the bit shifted out was 1; nothing else changes: `bitcnt` is zero between
operations (R34), and `ret` is the model's own field (log 14). -/
def Obligations.CrcByteRunsEightShiftSteps : Prop :=
  (∀ x : OperandLines, decode (.command 0x1#4 x) = .ok (.crcByte x.byte)) ∧
  (∀ c : Word, crcShift c = if c.getLsbD 0 = true then (c >>> 1) ^^^ 0xA001#16 else c >>> 1) ∧
  ∀ (b : Byte) (s : State), inFlight s = false →
    ∃ r, exec (.crcByte b) s =
      .next { s with crc := Nat.iterate crcShift 8 (s.crc ^^^ b.setWidth 16), bitcnt := 0#4, ret := r }

/-- `CRC.OUT` (R103), select code `0x2`: the low byte `crc[7:0]`, then the high byte `crc[15:8]`; `crc` and everything
else is unchanged. That the two bytes are returned in the field `ret` is the model's choice (log 14). -/
def Obligations.CrcOutEmitsLowByteFirst : Prop :=
  (∀ x : OperandLines, decode (.command 0x2#4 x) = .ok .crcOut) ∧
  ∀ s : State, inFlight s = false →
    exec .crcOut s = .next { s with ret := .crcPair (s.crc.extractLsb' 0 8) (s.crc.extractLsb' 8 8) }

/-- `CRC16 s` (R104), select code `0x3`: the fold of the step of `CRC.BYTE` from the seed, returned and left in `crc`;
nothing else changes, `bitcnt` being zero between operations (R34). That the value is returned in the field `ret` is
the model's choice (log 14). -/
def Obligations.Crc16FoldsTheBytesFromTheSeed : Prop :=
  (∀ x : OperandLines, decode (.command 0x3#4 x) = .ok (.crc16 x.bytes)) ∧
  (∀ (c : Word) (b : Byte), crcStep c b = Nat.iterate crcShift 8 (c ^^^ b.setWidth 16)) ∧
  ∀ (bytes : List Byte) (s : State), inFlight s = false →
    exec (.crc16 bytes) s =
      .next { s with
        crc := bytes.foldl crcStep 0xFFFF#16
        bitcnt := 0#4
        ret := .crcValue (bytes.foldl crcStep 0xFFFF#16) }

/-- Zero residue (R105(d)): a payload followed by its CRC, low byte first, has CRC 0. -/
def Obligations.FrameWithItsCrcHasZeroResidue : Prop :=
  ∀ p : List Byte, crc16 (withCrc p) = 0x0000#16

/-- Every single-bit change of a `Correct` frame that still passes the classification and the exact-length check
is answered with CRC mismatch (R129(f)). -/
def Obligations.SingleBitErrorIsDetected : Prop :=
  ∀ (w : List Byte) (r : Rsp) (c : Word) (i k : Nat) (b : Byte) (cl : RspClass),
    decodeResult w = .ok (.frame r c) → w[i]? = some b → k < 8 →
    checkFrame (w.set i (b ^^^ (1#8 <<< k))) = .ok (.ok cl) →
    ∃ c', decodeResult (w.set i (b ^^^ (1#8 <<< k))) = .ok (.crcMismatch c')

/-! The frame encoder. -/

/-- `ENCODE` with one of the six functions and two byte pairs (R110, R111): the eight bytes, kind, function,
`txValid`, `fault`, and the CRC unit left holding the CRC; nothing else changes. -/
def Obligations.EncodeBuildsTheRequest : Prop :=
  ∀ (a r0 r1 t0 t1 : Byte) (t : FunctionType) (s : State), inFlight s = false →
    let c := crc16 [a, requestCode t, r0, r1, t0, t1]
    let f : TxFrame :=
      { slave := a, fc := requestCode t, addr0 := r0, addr1 := r1, tail0 := t0, tail1 := t1
        crcLo := c.extractLsb' 0 8, crcHi := c.extractLsb' 8 8 }
    exec (.encode a (.fn t) [r0, r1] [t0, t1]) s =
      .next { s with
        req := { slave := a, fn := .fn t, addr := [r0, r1], tail := [t0, t1] }
        tx := f
        txKind := if t = .writeCoil ∨ t = .writeHoldingRegister then .requestWrite else .requestRead
        txFn := t
        txValid := true
        fault := .none
        crc := c
        bitcnt := 0#4
        ret := .encoded f }

/-- The faults of `ENCODE` (R112, R171): an unmapped function first, then a parameter that is not exactly two bytes;
of the block nothing but `fault` and `txValid` is written (R111). The caller's operands stand in the request registers
(R22), where a fault leaves them: that is the model's reading (log 25). The returned fault in `ret` (log 14) and the
entry of the sticky log (D20; log 29) are the model's choice. -/
def Obligations.EncodeFaultsAreRecorded : Prop :=
  ∀ (a : Byte) (fn : FnSel) (addr tail : List Byte) (s : State), inFlight s = false →
    (mappedFunction fn = none →
      exec (.encode a fn addr tail) s =
        .next { s with
          req := { slave := a, fn := fn, addr := addr, tail := tail }
          txValid := false
          fault := .invalidParameter .unmappedFunction
          faultLog := s.faultLog ++ [{ raisedBy := .enc, fault := .invalidParameter .unmappedFunction }]
          ret := .raised (.invalidParameter .unmappedFunction) }) ∧
    ((mappedFunction fn).isSome = true → addr.length ≠ 2 ∨ tail.length ≠ 2 →
      exec (.encode a fn addr tail) s =
        .next { s with
          req := { slave := a, fn := fn, addr := addr, tail := tail }
          txValid := false
          fault := .invalidParameter .badWidth
          faultLog := s.faultLog ++ [{ raisedBy := .enc, fault := .invalidParameter .badWidth }]
          ret := .raised (.invalidParameter .badWidth) })

/-- The six `REQ.*` rows (R71, R111; that a row runs `ENCODE` is the model's choice of log 3): each completes with
the frame of its own code in `tx`, its function and kind, `txValid` set and no fault, and changes nothing but
what `ENCODE` writes. -/
def Obligations.RequestRowsBuildTheirFrames : Prop :=
  ∀ (a r0 r1 t0 t1 : Byte) (s : State), inFlight s = false →
    let built (i : Instr) (t : FunctionType) (fc : Byte) (k : RequestKind) : Prop :=
      let c := crc16 [a, fc, r0, r1, t0, t1]
      let f : TxFrame :=
        { slave := a, fc := fc, addr0 := r0, addr1 := r1, tail0 := t0, tail1 := t1
          crcLo := c.extractLsb' 0 8, crcHi := c.extractLsb' 8 8 }
      exec i s =
        .next { s with
          req := { slave := a, fn := .fn t, addr := [r0, r1], tail := [t0, t1] }
          tx := f, txKind := k, txFn := t, txValid := true
          fault := .none, crc := c, bitcnt := 0#4, ret := .encoded f }
    built (.reqReadCoil a r0 r1 t0 t1) .readCoil 1#8 .requestRead ∧
    built (.reqReadDigitalInput a r0 r1 t0 t1) .readDigitalInput 2#8 .requestRead ∧
    built (.reqReadHoldingRegister a r0 r1 t0 t1) .readHoldingRegister 3#8 .requestRead ∧
    built (.reqReadInputRegister a r0 r1 t0 t1) .readInputRegister 4#8 .requestRead ∧
    built (.reqWriteCoil a r0 r1 t0 t1) .writeCoil 5#8 .requestWrite ∧
    built (.reqWriteHoldingRegister a r0 r1 t0 t1) .writeHoldingRegister 6#8 .requestWrite

/-- The laws of `ENCODE` (R113(a) to (d)): whenever it leaves `txValid` set, `tx` has eight bytes and zero
residue, its byte 1 is one of 1 to 6, and its kind is RequestWrite exactly when that byte is 5 or 6. -/
def Obligations.EncodedRequestObeysItsLaws : Prop :=
  ∀ (a : Byte) (fn : FnSel) (addr tail : List Byte) (s u : State),
    exec (.encode a fn addr tail) s = .next u → u.txValid = true →
    (txBytes u.tx).length = 8 ∧
    crc16 (txBytes u.tx) = 0x0000#16 ∧
    (1 ≤ u.tx.fc.toNat ∧ u.tx.fc.toNat ≤ 6) ∧
    (u.txKind = .requestWrite ↔ u.tx.fc = 5#8 ∨ u.tx.fc = 6#8)

/-- The echo law (R129(c)): a write request that `ENCODE` built decodes to a write response with the request's
slave, function, address and value. -/
def Obligations.EncodedWriteRequestEchoes : Prop :=
  ∀ (a r0 r1 t0 t1 : Byte) (t : FunctionType) (s : State),
    inFlight s = false → t = .writeCoil ∨ t = .writeHoldingRegister →
    ∃ u v r, exec (.encode a (.fn t) [r0, r1] [t0, t1]) s = .next u ∧
      exec (.decode (txBytes u.tx)) u = .next v ∧
      v.rspValid = true ∧ v.rsp = some r ∧
      r.slave = a ∧ r.fn = t ∧ r.body = .write (r0, r1) (t0, t1) ∧ r.wire = txBytes u.tx

/-! The frame decoder. -/

/-- A correct read response decodes (R123, R127): for each read function, every slave, and data of exactly the
counted length, every field of `rsp`, `rspValid`, `fault`, and the CRC left in the CRC unit; nothing else
changes. -/
def Obligations.ReadResponseDecodes : Prop :=
  ∀ (a n : Byte) (data : List Byte) (t : FunctionType) (s : State),
    inFlight s = false → isWrite t = false → data.length = n.toNat →
    let p := a :: requestCode t :: n :: data
    let r : Rsp :=
      { slave := a, fc := requestCode t, fn := t, body := .read n data
        crcLo := lowByte (crc16 p), crcHi := highByte (crc16 p), wire := withCrc p }
    exec (.decode (withCrc p)) s =
      .next { s with
        crc := crc16 p, bitcnt := 0#4, rsp := some r, rspValid := true, fault := .none, ret := .frame r }

/-- A correct write response decodes (R122, R127). -/
def Obligations.WriteResponseDecodes : Prop :=
  ∀ (a r0 r1 v0 v1 : Byte) (t : FunctionType) (s : State),
    inFlight s = false → isWrite t = true →
    let p := [a, requestCode t, r0, r1, v0, v1]
    let r : Rsp :=
      { slave := a, fc := requestCode t, fn := t, body := .write (r0, r1) (v0, v1)
        crcLo := lowByte (crc16 p), crcHi := highByte (crc16 p), wire := withCrc p }
    exec (.decode (withCrc p)) s =
      .next { s with
        crc := crc16 p, bitcnt := 0#4, rsp := some r, rspValid := true, fault := .none, ret := .frame r }

/-- A correct exception response decodes, for each of the six functions and every exception code, in the table or
not (R121, R127, R77): a Modbus exception is no fault of `DECODE` (R128). -/
def Obligations.ExceptionResponseDecodes : Prop :=
  ∀ (a e : Byte) (t : FunctionType) (s : State),
    inFlight s = false →
    let p := [a, exceptionCode t, e]
    let r : Rsp :=
      { slave := a, fc := exceptionCode t, fn := t, body := .exception e (exceptionEntry e)
        crcLo := lowByte (crc16 p), crcHi := highByte (crc16 p), wire := withCrc p }
    exec (.decode (withCrc p)) s =
      .next { s with
        crc := crc16 p, bitcnt := 0#4, rsp := some r, rspValid := true, fault := .none, ret := .frame r }

/-- CRC mismatch (R125): a buffer of the exact length of its kind whose last two bytes are not the CRC of the
rest, low byte first, exposes no frame and raises no fault. -/
def Obligations.WrongCrcExposesNoFrame : Prop :=
  ∀ (p : List Byte) (c d : Byte) (s : State), inFlight s = false →
    ((∃ a e t, p = [a, exceptionCode t, e]) ∨
      (∃ a r0 r1 v0 v1 t, isWrite t = true ∧ p = [a, requestCode t, r0, r1, v0, v1]) ∨
      (∃ a n data t, isWrite t = false ∧ data.length = n.toNat ∧ p = a :: requestCode t :: n :: data)) →
    [lowByte (crc16 p), highByte (crc16 p)] ≠ [c, d] →
    exec (.decode (p ++ [c, d])) s =
      .next { s with
        crc := crc16 p, bitcnt := 0#4, rsp := none, rspValid := false, fault := .none, ret := .crcMismatch }

/-- The codec faults of `DECODE` in the order of R127 (R124, R126, R171): too short to classify, unmapped function,
then the length of the kind, shorter before longer. `fault` and `rspValid` are written, no frame is exposed,
nothing else changes: the CRC unit is not run. The returned fault in `ret` (log 14) and the entry of the sticky log
(D20; log 29) are the model's choice. -/
def Obligations.DecodeFaultsAreRecorded : Prop :=
  ∀ (w : List Byte) (s : State), inFlight s = false →
    let raised (f : CodecFault) : Prop :=
      exec (.decode w) s =
        .next { s with
          rsp := none, rspValid := false, fault := f, ret := .raised f
          faultLog := s.faultLog ++ [{ raisedBy := .dec, fault := f }] }
    (w.length < 2 → raised (.malformedFrame .tooShort)) ∧
    ∀ (c1 : Byte), w[1]? = some c1 →
      (classify c1 = none → raised (.invalidParameter .unmappedFunction)) ∧
      (∀ t, classify c1 = some (.exception t) →
        (w.length < 5 → raised (.malformedFrame .tooShort)) ∧
        (5 < w.length → raised (.malformedFrame .tooLong))) ∧
      (∀ t, classify c1 = some (.write t) →
        (w.length < 8 → raised (.malformedFrame .tooShort)) ∧
        (8 < w.length → raised (.malformedFrame .tooLong))) ∧
      (∀ t, classify c1 = some (.read t) →
        (w.length = 2 → raised (.malformedFrame .tooShort)) ∧
        ∀ n : Byte, w[2]? = some n →
          (w.length < 3 + n.toNat + 2 → raised (.malformedFrame .tooShort)) ∧
          (3 + n.toNat + 2 < w.length → raised (.malformedFrame .tooLong)))

/-- `DECODE` answers on every buffer, exposes a frame exactly when `rspValid` is set, any frame it exposes is
`Correct` (R27, R129(d)), and it writes nothing but the CRC unit, `rsp`, `rspValid`, `fault`, the returned value
(log 14) and the sticky log (log 29) (R128). -/
def Obligations.DecodeAnswersOnEveryBuffer : Prop :=
  ∀ (w : List Byte) (s : State), inFlight s = false →
    ∃ t, exec (.decode w) s = .next t ∧
      t.rspValid = t.rsp.isSome ∧
      (∀ r, t.rsp = some r → rspCorrect r ∧ r.wire = w) ∧
      t = { s with
        crc := t.crc, bitcnt := t.bitcnt, rsp := t.rsp, rspValid := t.rspValid, fault := t.fault, ret := t.ret
        faultLog := t.faultLog }

/-- The four `RSP_READ.*` rows (R72, R123; that a row runs `DECODE` is the model's choice of log 3): a row whose
data has its counted length and whose last bytes are the CRC completes with that response in `rsp`. -/
def Obligations.ReadRowsFillTheResponse : Prop :=
  ∀ (a n : Byte) (data : List Byte) (s : State), inFlight s = false → data.length = n.toNat →
    let lo (fc : Byte) := lowByte (crc16 (a :: fc :: n :: data))
    let hi (fc : Byte) := highByte (crc16 (a :: fc :: n :: data))
    let shown (i : Instr) (t : FunctionType) (fc : Byte) : Prop :=
      let r : Rsp :=
        { slave := a, fc := fc, fn := t, body := .read n data, crcLo := lo fc, crcHi := hi fc
          wire := a :: fc :: n :: (data ++ [lo fc, hi fc]) }
      exec i s =
        .next { s with
          crc := crc16 (a :: fc :: n :: data), bitcnt := 0#4
          rsp := some r, rspValid := true, fault := .none, ret := .frame r }
    shown (.rspReadCoil a n data (lo 1) (hi 1)) .readCoil 1 ∧
    shown (.rspReadDigitalInput a n data (lo 2) (hi 2)) .readDigitalInput 2 ∧
    shown (.rspReadHoldingRegister a n data (lo 3) (hi 3)) .readHoldingRegister 3 ∧
    shown (.rspReadInputRegister a n data (lo 4) (hi 4)) .readInputRegister 4

/-- The two `RSP_WRITE.*` rows (R73, R122; log 3). -/
def Obligations.WriteRowsFillTheResponse : Prop :=
  ∀ (a r0 r1 v0 v1 : Byte) (s : State), inFlight s = false →
    let lo (fc : Byte) := lowByte (crc16 [a, fc, r0, r1, v0, v1])
    let hi (fc : Byte) := highByte (crc16 [a, fc, r0, r1, v0, v1])
    let shown (i : Instr) (t : FunctionType) (fc : Byte) : Prop :=
      let r : Rsp :=
        { slave := a, fc := fc, fn := t, body := .write (r0, r1) (v0, v1), crcLo := lo fc, crcHi := hi fc
          wire := [a, fc, r0, r1, v0, v1, lo fc, hi fc] }
      exec i s =
        .next { s with
          crc := crc16 [a, fc, r0, r1, v0, v1], bitcnt := 0#4
          rsp := some r, rspValid := true, fault := .none, ret := .frame r }
    shown (.rspWriteCoil a r0 r1 v0 v1 (lo 5) (hi 5)) .writeCoil 5 ∧
    shown (.rspWriteHoldingRegister a r0 r1 v0 v1 (lo 6) (hi 6)) .writeHoldingRegister 6

/-- The six `RSP_EXC.*` rows (R74, R121; log 3). -/
def Obligations.ExceptionRowsFillTheResponse : Prop :=
  ∀ (a e : Byte) (s : State), inFlight s = false →
    let lo (fc : Byte) := lowByte (crc16 [a, fc, e])
    let hi (fc : Byte) := highByte (crc16 [a, fc, e])
    let shown (i : Instr) (t : FunctionType) (fc : Byte) : Prop :=
      let r : Rsp :=
        { slave := a, fc := fc, fn := t, body := .exception e (exceptionEntry e), crcLo := lo fc, crcHi := hi fc
          wire := [a, fc, e, lo fc, hi fc] }
      exec i s =
        .next { s with
          crc := crc16 [a, fc, e], bitcnt := 0#4
          rsp := some r, rspValid := true, fault := .none, ret := .frame r }
    shown (.rspExcReadCoil a e (lo 129) (hi 129)) .readCoil 129 ∧
    shown (.rspExcReadDigitalInput a e (lo 130) (hi 130)) .readDigitalInput 130 ∧
    shown (.rspExcReadHoldingRegister a e (lo 131) (hi 131)) .readHoldingRegister 131 ∧
    shown (.rspExcReadInputRegister a e (lo 132) (hi 132)) .readInputRegister 132 ∧
    shown (.rspExcWriteCoil a e (lo 133) (hi 133)) .writeCoil 133 ∧
    shown (.rspExcWriteHoldingRegister a e (lo 134) (hi 134)) .writeHoldingRegister 134

/-- A response row of any operands, its CRC bytes right or wrong, does what `DECODE` does with the bytes that
encode it (R120; log 3). -/
def Obligations.ResponseRowRunsDecodeOfItsBytes : Prop :=
  ∀ (i : Instr) (w : List Byte) (s : State), encode i = .responseFrame w → exec i s = exec (.decode w) s

/-! The expected-size estimator. -/

/-- `EST.ARM` (R140): 8 for a write request, 3 for a read request, `latched` cleared, nothing else changed (`ret`,
the model's own field of log 14, apart). -/
def Obligations.EstArmSetsTheProvisionalLength : Prop :=
  ∀ s : State, inFlight s = false →
    ∃ r, exec .estArm s =
      .next { s with est := if s.txKind = .requestWrite then 8#16 else 3#16, latched := false, ret := r }

/-- `EST.UPDATE` (R141): with three bytes and not latched, a byte 1 above 16 sets 5 and latches, otherwise a read
request sets `3 + rx[2] + 2` and latches; in every other case the estimate and the latch stand. Nothing else
changes (`ret`, the model's own field of log 14, apart). -/
def Obligations.EstUpdateRefinesTheLength : Prop :=
  ∀ s : State, inFlight s = false →
    ∃ e l r, exec .estUpdate s = .next { s with est := e, latched := l, ret := r } ∧
      (s.latched = true ∨ s.rx.length < 3 → e = s.est ∧ l = s.latched) ∧
      (∀ b0 b1 b2 rest, s.rx = b0 :: b1 :: b2 :: rest → s.latched = false →
        (16 < b1.toNat → e = 5#16 ∧ l = true) ∧
        (b1.toNat ≤ 16 → s.txKind = .requestRead → e.toNat = 3 + b2.toNat + 2 ∧ l = true) ∧
        (b1.toNat ≤ 16 → s.txKind = .requestWrite → e = s.est ∧ l = false))

/-- Once latched, or once three bytes have been seen, more bytes never change what the estimator answers
(R144(a)). -/
def Obligations.SettledEstimateNeverChanges : Prop :=
  (∀ (k : RequestKind) (rx : List Byte) (est : Word), refineEstimate k rx est true = .ok (est, true)) ∧
  ∀ (k : RequestKind) (rx more : List Byte) (est : Word) (l : Bool) (e : Word × Bool),
    3 ≤ rx.length → refineEstimate k rx est l = .ok e → refineEstimate k (rx ++ more) e.1 e.2 = .ok e

/-- The estimate is the length the decoder requires (R144(d)): when the response's class answers the request's
kind, a buffer of three or more bytes passes the decoder's classification and length checks exactly when its
length is the estimate made from the armed one. -/
def Obligations.EstimateIsTheDecodersLength : Prop :=
  ∀ (k : RequestKind) (b0 b1 b2 : Byte) (rest : List Byte) (cl : RspClass),
    classify b1 = some cl →
    (∀ t, cl = .read t → k = .requestRead) → (∀ t, cl = .write t → k = .requestWrite) →
    ∃ e, refineEstimate k (b0 :: b1 :: b2 :: rest) (provisionalEstimate k) false = .ok e ∧
      5 ≤ e.1.toNat ∧ e.1.toNat ≤ 260 ∧
      (checkFrame (b0 :: b1 :: b2 :: rest) = .ok (.ok cl) ↔ (b0 :: b1 :: b2 :: rest).length = e.1.toNat)

/-! The transport session. -/

/-- `EXECUTE` with one of the six functions and two byte pairs (R151, R111): a fresh `Idle`, the request encoded,
`sess = Sending`, nothing sent yet. `subscribed` is left as it is. `call`, the outstanding transport call, is the
model's own field (log 13). -/
def Obligations.ExecuteStartsAnExchange : Prop :=
  ∀ (a r0 r1 t0 t1 : Byte) (t : FunctionType) (s : State), inFlight s = false →
    let c := crc16 [a, requestCode t, r0, r1, t0, t1]
    exec (.execute a (.fn t) [r0, r1] [t0, t1]) s =
      .next { s with
        req := { slave := a, fn := .fn t, addr := [r0, r1], tail := [t0, t1] }
        tx := { slave := a, fc := requestCode t, addr0 := r0, addr1 := r1, tail0 := t0, tail1 := t1
                crcLo := lowByte c, crcHi := highByte c }
        txKind := if t = .writeCoil ∨ t = .writeHoldingRegister then .requestWrite else .requestRead
        txFn := t, txValid := true, crc := c, bitcnt := 0#4
        rx := [], est := 0#16, latched := false, done := false, overshoot := false
        rsp := none, rspValid := false, tstate := .none, fault := .none, writeTries := 0
        wdArmed := false, sess := .sending
        call := if s.cfg.notifyCheckFirst = true then .supportsNotifications else .write
        ret := .nothing }

/-- `EXECUTE` with bad parameters (R151, R159): `InvalidParameter` is returned with `sess = Idle` and no bytes, no
transport call is made, no earlier frame is shown, and the sticky log takes the fault down (D20; log 29). -/
def Obligations.ExecuteWithBadParametersSendsNothing : Prop :=
  ∀ (a : Byte) (fn : FnSel) (addr tail : List Byte) (s : State), inFlight s = false →
    (mappedFunction fn = none ∨ addr.length ≠ 2 ∨ tail.length ≠ 2) →
    ∃ t cause, exec (.execute a fn addr tail) s = .next t ∧
      (cause = .unmappedFunction ↔ mappedFunction fn = none) ∧
      t.fault = .invalidParameter cause ∧
      t.faultLog = s.faultLog ++ [{ raisedBy := .enc, fault := .invalidParameter cause }] ∧
      t.ret = .exchange (.codecFault (.invalidParameter cause) []) ∧
      t.sess = .idle ∧ t.tstate = .none ∧ t.rx = [] ∧ t.rsp = none ∧ t.rspValid = false ∧
      t.txValid = false ∧ t.wdArmed = false ∧ t.call = .none ∧
      t.calls = s.calls ∧ t.subscribed = s.subscribed ∧ t.tx = s.tx

/-- While an exchange is in flight every operation of the caller is refused (R160, R202; that this takes in
`CRC.INIT`, `CRC.BYTE` and `CRC.OUT`, which the rule does not name, is the model's reading of log 22). -/
def Obligations.OperationsDuringAnExchangeAreRefused : Prop :=
  ∀ (i : Instr) (s : State), s.sess = .sending ∨ s.sess = .awaitingResponse →
    exec i s = .refused .exchangeInFlight

/-- The notification check (R152): a negative answer ends the exchange in `CantUpdate` with no byte received and
nothing armed; a positive one lets it go on, to the write when the check comes first, to the armed wait when the
write has succeeded already (D19). -/
def Obligations.NotificationAnswerDecides : Prop :=
  ∀ (s : State) (rest : List Event) (answer : Bool),
    s.inbox = .notify answer :: rest → s.sess = .sending → s.call = .supportsNotifications →
    ∃ t, step s = .next t ∧
      (answer = false →
        t = { s with
          inbox := rest, calls := s.calls ++ [.supportsNotifications], call := .none
          tstate := .characteristicCantUpdate, sess := .cantUpdate
          ret := .exchange (.result [] .characteristicCantUpdate none) }) ∧
      (answer = true → s.cfg.notifyCheckFirst = true →
        t = { s with inbox := rest, calls := s.calls ++ [.supportsNotifications], call := .write }) ∧
      (answer = true → s.cfg.notifyCheckFirst = false →
        t = { s with
          inbox := rest, calls := s.calls ++ [.supportsNotifications, .subscribe], call := .none
          est := if s.txKind = .requestWrite then 8#16 else 3#16, latched := false
          wdArmed := true, subscribed := true, sess := .awaitingResponse })

/-- A failed write (R153): the first failure leaves the session `Sending` with the write outstanding again, the
second ends it in `SendFailed` with no byte received; each attempt offers the eight bytes of `tx`. -/
def Obligations.FailedWriteIsRetriedOnce : Prop :=
  ∀ (s : State) (rest : List Event),
    s.inbox = .write false :: rest → s.sess = .sending → s.call = .write →
    (s.writeTries = 0 →
      step s = .next { s with inbox := rest, calls := s.calls ++ [.write s.tx], writeTries := 1 }) ∧
    (s.writeTries ≠ 0 →
      step s = .next { s with
        inbox := rest, calls := s.calls ++ [.write s.tx], writeTries := 2, call := .none
        tstate := .errorSendMessage, sess := .sendFailed
        ret := .exchange (.result [] .errorSendMessage none) })

/-- A successful write arms the exchange (R153, R154): provisional estimate, watchdog, subscription and
`AwaitingResponse` in one transition. Without the check first, the notification check is next (D19). -/
def Obligations.SuccessfulWriteArmsTheExchange : Prop :=
  ∀ (s : State) (rest : List Event),
    s.inbox = .write true :: rest → s.sess = .sending → s.call = .write →
    (s.cfg.notifyCheckFirst = true →
      step s = .next { s with
        inbox := rest, calls := s.calls ++ [.write s.tx, .subscribe], call := .none
        writeTries := if s.writeTries = 0 then 1 else 2
        est := if s.txKind = .requestWrite then 8#16 else 3#16, latched := false
        wdArmed := true, subscribed := true, sess := .awaitingResponse }) ∧
    (s.cfg.notifyCheckFirst = false →
      step s = .next { s with
        inbox := rest, calls := s.calls ++ [.write s.tx], call := .supportsNotifications
        writeTries := if s.writeTries = 0 then 1 else 2 })

/-- A fragment that neither completes nor overshoots (R155): it is appended, the watchdog restarts, the estimate
is updated, and the session waits on; nothing else changes. -/
def Obligations.FragmentIsAccumulated : Prop :=
  ∀ (s : State) (rest : List Event) (f : List Byte) (e : Word × Bool),
    s.inbox = .fragment f :: rest → s.sess = .awaitingResponse → s.subscribed = true →
    refineEstimate s.txKind (s.rx ++ f) s.est s.latched = .ok e → (s.rx ++ f).length < e.1.toNat →
    step s = .next { s with inbox := rest, rx := s.rx ++ f, wdArmed := true, est := e.1, latched := e.2 }

/-- A fragment that overshoots (R143, R155): under `OVERSHOOT_REPORT = ErrorReceiveMessage`, the value the spec
takes, the exchange ends in `ReceiveFailed` with every received byte and no decode; under `WaitForTimeout` it
waits on with the flag set (D17). -/
def Obligations.OvershootIsReported : Prop :=
  ∀ (s : State) (rest : List Event) (f : List Byte) (e : Word × Bool),
    s.inbox = .fragment f :: rest → s.sess = .awaitingResponse → s.subscribed = true →
    refineEstimate s.txKind (s.rx ++ f) s.est s.latched = .ok e → e.1.toNat < (s.rx ++ f).length →
    (s.cfg.overshootReport = .errorReceiveMessage →
      step s = .next { s with
        inbox := rest, rx := s.rx ++ f, est := e.1, latched := e.2, overshoot := true
        wdArmed := false, subscribed := false, calls := s.calls ++ [.unsubscribe]
        tstate := .errorReceiveMessage, sess := .receiveFailed
        ret := .exchange (.result (s.rx ++ f) .errorReceiveMessage none) }) ∧
    (s.cfg.overshootReport = .waitForTimeout →
      step s = .next { s with
        inbox := rest, rx := s.rx ++ f, est := e.1, latched := e.2, overshoot := true, wdArmed := true })

/-- A fragment that completes the frame (R155, R156; that the decode is the same transition is the model's choice
of log 20): `Complete`, unsubscribed and disarmed, `rx` decoded; `OK` with the frame, `ErrorCRC` with none, or
the codec fault with `tstate` left as it is and the fault in the sticky log (D20; log 29), and the received bytes
returned with each. -/
def Obligations.CompleteFrameIsDecoded : Prop :=
  ∀ (s : State) (rest : List Event) (f : List Byte) (e : Word × Bool),
    s.inbox = .fragment f :: rest → s.sess = .awaitingResponse → s.subscribed = true →
    refineEstimate s.txKind (s.rx ++ f) s.est s.latched = .ok e → (s.rx ++ f).length = e.1.toNat →
    let w := s.rx ++ f
    ∃ t, step s = .next t ∧
      t.sess = .complete ∧ t.done = true ∧ t.wdArmed = false ∧ t.subscribed = false ∧
      t.rx = w ∧ t.est = e.1 ∧ t.latched = e.2 ∧ t.calls = s.calls ++ [.unsubscribe] ∧
      (∀ r c, decodeResult w = .ok (.frame r c) →
        t.tstate = .ok ∧ t.rsp = some r ∧ t.rspValid = true ∧ t.fault = .none ∧ t.faultLog = s.faultLog ∧
        t.ret = .exchange (.result w .ok (some r))) ∧
      (∀ c, decodeResult w = .ok (.crcMismatch c) →
        t.tstate = .errorCRC ∧ t.rsp = none ∧ t.rspValid = false ∧ t.fault = .none ∧ t.faultLog = s.faultLog ∧
        t.ret = .exchange (.result w .errorCRC none)) ∧
      (∀ g, decodeResult w = .ok (.raised g) →
        t.tstate = s.tstate ∧ t.rsp = none ∧ t.rspValid = false ∧ t.fault = g ∧
        t.faultLog = s.faultLog ++ [{ raisedBy := .dec, fault := g }] ∧
        t.ret = .exchange (.codecFault g w))

/-- The watchdog step (R157): `TimedOut` with `TIMEOUT` and whatever bytes were collected; nothing else changes. -/
def Obligations.WatchdogEndsTheWait : Prop :=
  ∀ (s : State) (rest : List Event),
    s.inbox = .watchdog :: rest → s.sess = .awaitingResponse → s.wdArmed = true →
    step s = .next { s with
      inbox := rest, wdArmed := false, subscribed := false, calls := s.calls ++ [.unsubscribe]
      tstate := .timeout, sess := .timedOut, ret := .exchange (.result s.rx .timeout none) }

/-- The disconnect step (R158): `ReceiveFailed` with `DISCONNECT_STATE`, whatever that parameter is; nothing else
changes. -/
def Obligations.DisconnectCancelsTheWait : Prop :=
  ∀ (s : State) (rest : List Event),
    s.inbox = .disconnect :: rest → s.sess = .awaitingResponse →
    step s = .next { s with
      inbox := rest, wdArmed := false, subscribed := false, calls := s.calls ++ [.unsubscribe]
      tstate := s.cfg.disconnectState, sess := .receiveFailed
      ret := .exchange (.result s.rx s.cfg.disconnectState none) }

/-- Outside `AwaitingResponse` a fragment is discarded and a watchdog expiry or a disconnect does nothing (R155,
R174). -/
def Obligations.StrayEventChangesNothing : Prop :=
  ∀ (s : State) (rest : List Event) (e : Event),
    s.inbox = e :: rest → s.sess ≠ .awaitingResponse →
    ((∃ f, e = .fragment f) ∨ e = .watchdog ∨ e = .disconnect) →
    step s = .next { s with inbox := rest }

/-- A fragment of length 0 only restarts the watchdog (R155, D29), in every state that meets the invariant; under
`WaitForTimeout` after an overshoot too. -/
def Obligations.EmptyFragmentOnlyRestartsTheWatchdog : Prop :=
  ∀ (s : State) (rest : List Event), StateInv s →
    s.inbox = .fragment [] :: rest → s.sess = .awaitingResponse →
    step s = .next { s with inbox := rest, wdArmed := true }

/-- Fragment boundaries have no effect but through the end of the exchange (20_memory.md R53): in every state that
meets the invariant, if the session still waits after a first fragment, a second fragment leaves exactly the state
that one fragment with the bytes of both leaves. -/
def Obligations.FragmentBoundariesDoNotMatter : Prop :=
  ∀ (s t : State) (f g : List Byte), StateInv s →
    onFragment f s = .ok t → t.sess = .awaitingResponse →
    onFragment g t = onFragment (f ++ g) s

/-! The machine as a whole. -/

/-- THE INVARIANT: every step that answers a next state keeps it (R27, R34, R143, R144, R159, R164, R176). -/
def Obligations.EveryStepKeepsTheInvariant : Prop :=
  ∀ s t : State, StateInv s → step s = .next t → StateInv t

/-- The invariant holds right after reset (R36). -/
def Obligations.ResetMeetsTheInvariant : Prop :=
  StateInv State.reset

/-- No step faults, in any state: an out-of-range read never happens (00_scope.md R7). -/
def Obligations.NoStepReadsOutsideABuffer : Prop :=
  ∀ (s : State) (f : Fault), step s ≠ .fault f

/-- The session state changes only as the table of R150 says, with reset beside it (R200): each change has its
move, and nothing leaves a terminal state but `EXECUTE` and reset. -/
def Obligations.SessionChangesOnlyAsTheTableSays : Prop :=
  ∀ (s t : State) (e : Event) (rest : List Event),
    s.inbox = e :: rest → step s = .next t → t.sess ≠ s.sess →
    (e = .reset ∧ t.sess = .idle) ∨
    (inFlight s = false ∧ (t.sess = .sending ∨ t.sess = .idle) ∧
      ∃ r a fn addr tail, e = .invoke r ∧ decode r = .ok (.execute a fn addr tail)) ∨
    (s.sess = .sending ∧
      ((e = .notify false ∧ t.sess = .cantUpdate) ∨
       (e = .write false ∧ s.writeTries ≠ 0 ∧ t.sess = .sendFailed) ∨
       (e = .write true ∧ s.cfg.notifyCheckFirst = true ∧ t.sess = .awaitingResponse) ∨
       (e = .notify true ∧ s.cfg.notifyCheckFirst = false ∧ t.sess = .awaitingResponse))) ∨
    (s.sess = .awaitingResponse ∧
      ((∃ f, e = .fragment f ∧ (t.sess = .complete ∨ t.sess = .receiveFailed)) ∨
       (e = .watchdog ∧ t.sess = .timedOut) ∨
       (e = .disconnect ∧ t.sess = .receiveFailed)))

/-- The state right after reset, for every element the table of R36 gives a value. -/
def Obligations.ResetLeavesTheTableOfValues : Prop :=
  State.reset.crc = 0xFFFF#16 ∧ State.reset.bitcnt = 0#4 ∧ State.reset.txValid = false ∧
  State.reset.rx = [] ∧ rxLen State.reset = 0 ∧ State.reset.est = 0#16 ∧ State.reset.latched = false ∧
  State.reset.done = false ∧ State.reset.overshoot = false ∧ State.reset.rspValid = false ∧
  State.reset.tstate = .none ∧ State.reset.fault = .none ∧ State.reset.sess = .idle ∧
  State.reset.wdArmed = false ∧ State.reset.subscribed = false ∧ State.reset.writeTries = 0

/-- Reset in any state, an exchange in flight included (R200): every element takes its reset value and no result is
returned. R36 leaves `req`, `tx`, `txKind`, `txFn` and `rsp` unspecified: their values here are the model's choice
(log 6, 7, 8), and so are those of `call` and `ret` (log 13, 14). That the calls made, the fault log, the moves to come
and the parameters, all outside the block, stay as they are is the model's choice too (log 24, 29). -/
def Obligations.ResetAbandonsTheExchange : Prop :=
  ∀ (s : State) (rest : List Event), s.inbox = .reset :: rest →
    step s = .next { State.reset with
      calls := s.calls, faultLog := s.faultLog, inbox := rest, cfg := s.cfg }

/-- A STEP RUNS THE DECODED INSTRUCTION: when the oldest move is an invocation that decodes to `i`, a step is
`exec i` on the state without that move (R20). -/
def Obligations.StepRunsTheDecodedInstruction : Prop :=
  ∀ (s : State) (r : Raw) (rest : List Event) (i : Instr),
    s.inbox = .invoke r :: rest → decode r = .ok i → step s = exec i { s with inbox := rest }

/-- A step that answers takes exactly one move, never writes the parameters, and never unmakes a transport call; with
no move the block waits (R200). -/
def Obligations.StepTakesOneMove : Prop :=
  ∀ s t : State, step s = .next t →
    t.inbox = s.inbox.tail ∧ t.cfg = s.cfg ∧ s.calls <+: t.calls ∧ (s.inbox = [] → t = s)

/-- FRAME of the request frame (R23, R59): no operation but `ENCODE`, the `REQ.*` rows and `EXECUTE` writes a byte
of `tx`, its kind, its function or `txValid`, and no move of the transport or the watchdog does. -/
def Obligations.OnlyEncodersWriteTheRequestFrame : Prop :=
  (∀ (i : Instr) (s t : State),
    (∀ w, encode i ≠ .requestFrame w) →
    (∀ a fn addr tail, i ≠ .encode a fn addr tail ∧ i ≠ .execute a fn addr tail) →
    exec i s = .next t →
    (∀ k, readByte t .tx k = readByte s .tx k) ∧
    t.txKind = s.txKind ∧ t.txFn = s.txFn ∧ t.txValid = s.txValid ∧ t.req = s.req) ∧
  (∀ (s t : State) (e : Event) (rest : List Event),
    s.inbox = e :: rest → e ≠ .reset → (∀ r, e ≠ .invoke r) → step s = .next t →
    (∀ k, readByte t .tx k = readByte s .tx k) ∧
    t.txKind = s.txKind ∧ t.txFn = s.txFn ∧ t.txValid = s.txValid ∧ t.req = s.req)

/-- FRAME of the session: no operation but `EXECUTE` writes a byte of `rx` (R24), the result tag (R28), `done` or
`overshoot` (R30), the session state (R32), the watchdog, the subscription or the write count (R34); of `ENCODE` and
`DECODE` R114(f) and R128 say so again. No such operation makes a transport call or takes a move (the model's own
fields: log 1, 9, 13, 14). -/
def Obligations.UnitOperationsLeaveTheSessionAlone : Prop :=
  ∀ (i : Instr) (s t : State),
    (∀ a fn addr tail, i ≠ .execute a fn addr tail) → exec i s = .next t →
    (∀ k, readByte t .rx k = readByte s .rx k) ∧
    t.sess = s.sess ∧ t.tstate = s.tstate ∧ t.done = s.done ∧ t.overshoot = s.overshoot ∧
    t.wdArmed = s.wdArmed ∧ t.subscribed = s.subscribed ∧ t.writeTries = s.writeTries ∧
    t.call = s.call ∧ t.calls = s.calls ∧ t.inbox = s.inbox ∧ t.cfg = s.cfg

/-- FRAME of the units: only `EST.*` and `EXECUTE` write `est` and `latched` (R25, R114(f), R128); `EST.*`, `CRC.INIT`,
`CRC.BYTE`, `CRC.OUT` and `CRC16` write neither `rsp` and `rspValid` (R26) nor `fault` (R29), and no entry of the
sticky log (log 29); `EST.*` and `CRC.OUT` write neither `crc` (R21, R103) nor `bitcnt` (R34). -/
def Obligations.UnitsKeepToTheirOwnRegisters : Prop :=
  ∀ (i : Instr) (s t : State), exec i s = .next t →
    (i ≠ .estArm → i ≠ .estUpdate → (∀ a fn addr tail, i ≠ .execute a fn addr tail) →
      t.est = s.est ∧ t.latched = s.latched) ∧
    (i = .estArm ∨ i = .estUpdate ∨ i = .crcInit ∨ (∃ b, i = .crcByte b) ∨ i = .crcOut ∨
        (∃ bytes, i = .crc16 bytes) →
      t.rsp = s.rsp ∧ t.rspValid = s.rspValid ∧ t.fault = s.fault ∧ t.faultLog = s.faultLog) ∧
    (i = .estArm ∨ i = .estUpdate ∨ i = .crcOut → t.crc = s.crc ∧ t.bitcnt = s.bitcnt)

/-- Where an exchange has ended (70_reset_and_hazards.md R210): in every state that meets the invariant, in a
terminal state or in `Idle` the watchdog is disarmed, nothing is subscribed and no transport call is
outstanding. -/
def Obligations.EndedExchangeIsQuiet : Prop :=
  ∀ s : State, StateInv s → isTerminal s.sess = true ∨ s.sess = .idle →
    s.wdArmed = false ∧ s.subscribed = false ∧ s.call = .none

/-- THE FAULT LOG IS STICKY (R177, 92_eei_decisions.md D20; that the log is the field `faultLog`, with the unit beside
the fault, and that reset leaves it, is the model's choice of log 29): every step either takes one fault down behind
those already there, the fault that `fault` then holds, or leaves the log as it is, and then `fault` keeps its value or
is cleared. So no new fault stands in `fault` without an entry, and no entry is ever lost or changed. -/
def Obligations.FaultLogIsSticky : Prop :=
  ∀ s t : State, step s = .next t →
    (t.faultLog = s.faultLog ∧ (t.fault = s.fault ∨ t.fault = .none)) ∨
    ∃ u, t.fault ≠ .none ∧ t.faultLog = s.faultLog ++ [{ raisedBy := u, fault := t.fault }]
end

