-- ==== Sys2Proof/Laws/State.lean ====
section
/-! SUPPORT. One lemma per field per named update of State, each true by rfl, those of `armExchange` by the lemmas of
its parts, so that no later proof unfolds a record update. -/

namespace Sys2Proof.Machine

@[simp] theorem rxAppend_crc (f : List Byte) (s : State) : (rxAppend f s).crc = s.crc := rfl
@[simp] theorem rxAppend_bitcnt (f : List Byte) (s : State) : (rxAppend f s).bitcnt = s.bitcnt := rfl
@[simp] theorem rxAppend_req (f : List Byte) (s : State) : (rxAppend f s).req = s.req := rfl
@[simp] theorem rxAppend_tx (f : List Byte) (s : State) : (rxAppend f s).tx = s.tx := rfl
@[simp] theorem rxAppend_txKind (f : List Byte) (s : State) : (rxAppend f s).txKind = s.txKind := rfl
@[simp] theorem rxAppend_txFn (f : List Byte) (s : State) : (rxAppend f s).txFn = s.txFn := rfl
@[simp] theorem rxAppend_txValid (f : List Byte) (s : State) : (rxAppend f s).txValid = s.txValid := rfl
@[simp] theorem rxAppend_rx (f : List Byte) (s : State) : (rxAppend f s).rx = s.rx ++ f := rfl
@[simp] theorem rxAppend_est (f : List Byte) (s : State) : (rxAppend f s).est = s.est := rfl
@[simp] theorem rxAppend_latched (f : List Byte) (s : State) : (rxAppend f s).latched = s.latched := rfl
@[simp] theorem rxAppend_done (f : List Byte) (s : State) : (rxAppend f s).done = s.done := rfl
@[simp] theorem rxAppend_overshoot (f : List Byte) (s : State) : (rxAppend f s).overshoot = s.overshoot := rfl
@[simp] theorem rxAppend_rsp (f : List Byte) (s : State) : (rxAppend f s).rsp = s.rsp := rfl
@[simp] theorem rxAppend_rspValid (f : List Byte) (s : State) : (rxAppend f s).rspValid = s.rspValid := rfl
@[simp] theorem rxAppend_tstate (f : List Byte) (s : State) : (rxAppend f s).tstate = s.tstate := rfl
@[simp] theorem rxAppend_fault (f : List Byte) (s : State) : (rxAppend f s).fault = s.fault := rfl
@[simp] theorem rxAppend_sess (f : List Byte) (s : State) : (rxAppend f s).sess = s.sess := rfl
@[simp] theorem rxAppend_wdArmed (f : List Byte) (s : State) : (rxAppend f s).wdArmed = s.wdArmed := rfl
@[simp] theorem rxAppend_subscribed (f : List Byte) (s : State) : (rxAppend f s).subscribed = s.subscribed := rfl
@[simp] theorem rxAppend_writeTries (f : List Byte) (s : State) : (rxAppend f s).writeTries = s.writeTries := rfl
@[simp] theorem rxAppend_call (f : List Byte) (s : State) : (rxAppend f s).call = s.call := rfl
@[simp] theorem rxAppend_ret (f : List Byte) (s : State) : (rxAppend f s).ret = s.ret := rfl
@[simp] theorem rxAppend_calls (f : List Byte) (s : State) : (rxAppend f s).calls = s.calls := rfl
@[simp] theorem rxAppend_faultLog (f : List Byte) (s : State) : (rxAppend f s).faultLog = s.faultLog := rfl
@[simp] theorem rxAppend_inbox (f : List Byte) (s : State) : (rxAppend f s).inbox = s.inbox := rfl
@[simp] theorem rxAppend_cfg (f : List Byte) (s : State) : (rxAppend f s).cfg = s.cfg := rfl

@[simp] theorem setCrc_crc (v : Word) (s : State) : (setCrc v s).crc = v := rfl
@[simp] theorem setCrc_bitcnt (v : Word) (s : State) : (setCrc v s).bitcnt = 0#4 := rfl
@[simp] theorem setCrc_req (v : Word) (s : State) : (setCrc v s).req = s.req := rfl
@[simp] theorem setCrc_tx (v : Word) (s : State) : (setCrc v s).tx = s.tx := rfl
@[simp] theorem setCrc_txKind (v : Word) (s : State) : (setCrc v s).txKind = s.txKind := rfl
@[simp] theorem setCrc_txFn (v : Word) (s : State) : (setCrc v s).txFn = s.txFn := rfl
@[simp] theorem setCrc_txValid (v : Word) (s : State) : (setCrc v s).txValid = s.txValid := rfl
@[simp] theorem setCrc_rx (v : Word) (s : State) : (setCrc v s).rx = s.rx := rfl
@[simp] theorem setCrc_est (v : Word) (s : State) : (setCrc v s).est = s.est := rfl
@[simp] theorem setCrc_latched (v : Word) (s : State) : (setCrc v s).latched = s.latched := rfl
@[simp] theorem setCrc_done (v : Word) (s : State) : (setCrc v s).done = s.done := rfl
@[simp] theorem setCrc_overshoot (v : Word) (s : State) : (setCrc v s).overshoot = s.overshoot := rfl
@[simp] theorem setCrc_rsp (v : Word) (s : State) : (setCrc v s).rsp = s.rsp := rfl
@[simp] theorem setCrc_rspValid (v : Word) (s : State) : (setCrc v s).rspValid = s.rspValid := rfl
@[simp] theorem setCrc_tstate (v : Word) (s : State) : (setCrc v s).tstate = s.tstate := rfl
@[simp] theorem setCrc_fault (v : Word) (s : State) : (setCrc v s).fault = s.fault := rfl
@[simp] theorem setCrc_sess (v : Word) (s : State) : (setCrc v s).sess = s.sess := rfl
@[simp] theorem setCrc_wdArmed (v : Word) (s : State) : (setCrc v s).wdArmed = s.wdArmed := rfl
@[simp] theorem setCrc_subscribed (v : Word) (s : State) : (setCrc v s).subscribed = s.subscribed := rfl
@[simp] theorem setCrc_writeTries (v : Word) (s : State) : (setCrc v s).writeTries = s.writeTries := rfl
@[simp] theorem setCrc_call (v : Word) (s : State) : (setCrc v s).call = s.call := rfl
@[simp] theorem setCrc_ret (v : Word) (s : State) : (setCrc v s).ret = s.ret := rfl
@[simp] theorem setCrc_calls (v : Word) (s : State) : (setCrc v s).calls = s.calls := rfl
@[simp] theorem setCrc_faultLog (v : Word) (s : State) : (setCrc v s).faultLog = s.faultLog := rfl
@[simp] theorem setCrc_inbox (v : Word) (s : State) : (setCrc v s).inbox = s.inbox := rfl
@[simp] theorem setCrc_cfg (v : Word) (s : State) : (setCrc v s).cfg = s.cfg := rfl

@[simp] theorem dropRsp_crc (s : State) : (dropRsp s).crc = s.crc := rfl
@[simp] theorem dropRsp_bitcnt (s : State) : (dropRsp s).bitcnt = s.bitcnt := rfl
@[simp] theorem dropRsp_req (s : State) : (dropRsp s).req = s.req := rfl
@[simp] theorem dropRsp_tx (s : State) : (dropRsp s).tx = s.tx := rfl
@[simp] theorem dropRsp_txKind (s : State) : (dropRsp s).txKind = s.txKind := rfl
@[simp] theorem dropRsp_txFn (s : State) : (dropRsp s).txFn = s.txFn := rfl
@[simp] theorem dropRsp_txValid (s : State) : (dropRsp s).txValid = s.txValid := rfl
@[simp] theorem dropRsp_rx (s : State) : (dropRsp s).rx = s.rx := rfl
@[simp] theorem dropRsp_est (s : State) : (dropRsp s).est = s.est := rfl
@[simp] theorem dropRsp_latched (s : State) : (dropRsp s).latched = s.latched := rfl
@[simp] theorem dropRsp_done (s : State) : (dropRsp s).done = s.done := rfl
@[simp] theorem dropRsp_overshoot (s : State) : (dropRsp s).overshoot = s.overshoot := rfl
@[simp] theorem dropRsp_rsp (s : State) : (dropRsp s).rsp = Option.none := rfl
@[simp] theorem dropRsp_rspValid (s : State) : (dropRsp s).rspValid = false := rfl
@[simp] theorem dropRsp_tstate (s : State) : (dropRsp s).tstate = s.tstate := rfl
@[simp] theorem dropRsp_fault (s : State) : (dropRsp s).fault = s.fault := rfl
@[simp] theorem dropRsp_sess (s : State) : (dropRsp s).sess = s.sess := rfl
@[simp] theorem dropRsp_wdArmed (s : State) : (dropRsp s).wdArmed = s.wdArmed := rfl
@[simp] theorem dropRsp_subscribed (s : State) : (dropRsp s).subscribed = s.subscribed := rfl
@[simp] theorem dropRsp_writeTries (s : State) : (dropRsp s).writeTries = s.writeTries := rfl
@[simp] theorem dropRsp_call (s : State) : (dropRsp s).call = s.call := rfl
@[simp] theorem dropRsp_ret (s : State) : (dropRsp s).ret = s.ret := rfl
@[simp] theorem dropRsp_calls (s : State) : (dropRsp s).calls = s.calls := rfl
@[simp] theorem dropRsp_faultLog (s : State) : (dropRsp s).faultLog = s.faultLog := rfl
@[simp] theorem dropRsp_inbox (s : State) : (dropRsp s).inbox = s.inbox := rfl
@[simp] theorem dropRsp_cfg (s : State) : (dropRsp s).cfg = s.cfg := rfl

@[simp] theorem returning_crc (r : Ret) (s : State) : (returning r s).crc = s.crc := rfl
@[simp] theorem returning_bitcnt (r : Ret) (s : State) : (returning r s).bitcnt = s.bitcnt := rfl
@[simp] theorem returning_req (r : Ret) (s : State) : (returning r s).req = s.req := rfl
@[simp] theorem returning_tx (r : Ret) (s : State) : (returning r s).tx = s.tx := rfl
@[simp] theorem returning_txKind (r : Ret) (s : State) : (returning r s).txKind = s.txKind := rfl
@[simp] theorem returning_txFn (r : Ret) (s : State) : (returning r s).txFn = s.txFn := rfl
@[simp] theorem returning_txValid (r : Ret) (s : State) : (returning r s).txValid = s.txValid := rfl
@[simp] theorem returning_rx (r : Ret) (s : State) : (returning r s).rx = s.rx := rfl
@[simp] theorem returning_est (r : Ret) (s : State) : (returning r s).est = s.est := rfl
@[simp] theorem returning_latched (r : Ret) (s : State) : (returning r s).latched = s.latched := rfl
@[simp] theorem returning_done (r : Ret) (s : State) : (returning r s).done = s.done := rfl
@[simp] theorem returning_overshoot (r : Ret) (s : State) : (returning r s).overshoot = s.overshoot := rfl
@[simp] theorem returning_rsp (r : Ret) (s : State) : (returning r s).rsp = s.rsp := rfl
@[simp] theorem returning_rspValid (r : Ret) (s : State) : (returning r s).rspValid = s.rspValid := rfl
@[simp] theorem returning_tstate (r : Ret) (s : State) : (returning r s).tstate = s.tstate := rfl
@[simp] theorem returning_fault (r : Ret) (s : State) : (returning r s).fault = s.fault := rfl
@[simp] theorem returning_sess (r : Ret) (s : State) : (returning r s).sess = s.sess := rfl
@[simp] theorem returning_wdArmed (r : Ret) (s : State) : (returning r s).wdArmed = s.wdArmed := rfl
@[simp] theorem returning_subscribed (r : Ret) (s : State) : (returning r s).subscribed = s.subscribed := rfl
@[simp] theorem returning_writeTries (r : Ret) (s : State) : (returning r s).writeTries = s.writeTries := rfl
@[simp] theorem returning_call (r : Ret) (s : State) : (returning r s).call = s.call := rfl
@[simp] theorem returning_ret (r : Ret) (s : State) : (returning r s).ret = r := rfl
@[simp] theorem returning_calls (r : Ret) (s : State) : (returning r s).calls = s.calls := rfl
@[simp] theorem returning_faultLog (r : Ret) (s : State) : (returning r s).faultLog = s.faultLog := rfl
@[simp] theorem returning_inbox (r : Ret) (s : State) : (returning r s).inbox = s.inbox := rfl
@[simp] theorem returning_cfg (r : Ret) (s : State) : (returning r s).cfg = s.cfg := rfl

@[simp] theorem logFault_crc (u : CodecUnit) (f : CodecFault) (s : State) : (logFault u f s).crc = s.crc := rfl
@[simp] theorem logFault_bitcnt (u : CodecUnit) (f : CodecFault) (s : State) :
    (logFault u f s).bitcnt = s.bitcnt := rfl
@[simp] theorem logFault_req (u : CodecUnit) (f : CodecFault) (s : State) : (logFault u f s).req = s.req := rfl
@[simp] theorem logFault_tx (u : CodecUnit) (f : CodecFault) (s : State) : (logFault u f s).tx = s.tx := rfl
@[simp] theorem logFault_txKind (u : CodecUnit) (f : CodecFault) (s : State) :
    (logFault u f s).txKind = s.txKind := rfl
@[simp] theorem logFault_txFn (u : CodecUnit) (f : CodecFault) (s : State) : (logFault u f s).txFn = s.txFn := rfl
@[simp] theorem logFault_txValid (u : CodecUnit) (f : CodecFault) (s : State) :
    (logFault u f s).txValid = s.txValid := rfl
@[simp] theorem logFault_rx (u : CodecUnit) (f : CodecFault) (s : State) : (logFault u f s).rx = s.rx := rfl
@[simp] theorem logFault_est (u : CodecUnit) (f : CodecFault) (s : State) : (logFault u f s).est = s.est := rfl
@[simp] theorem logFault_latched (u : CodecUnit) (f : CodecFault) (s : State) :
    (logFault u f s).latched = s.latched := rfl
@[simp] theorem logFault_done (u : CodecUnit) (f : CodecFault) (s : State) : (logFault u f s).done = s.done := rfl
@[simp] theorem logFault_overshoot (u : CodecUnit) (f : CodecFault) (s : State) :
    (logFault u f s).overshoot = s.overshoot := rfl
@[simp] theorem logFault_rsp (u : CodecUnit) (f : CodecFault) (s : State) : (logFault u f s).rsp = s.rsp := rfl
@[simp] theorem logFault_rspValid (u : CodecUnit) (f : CodecFault) (s : State) :
    (logFault u f s).rspValid = s.rspValid := rfl
@[simp] theorem logFault_tstate (u : CodecUnit) (f : CodecFault) (s : State) :
    (logFault u f s).tstate = s.tstate := rfl
@[simp] theorem logFault_fault (u : CodecUnit) (f : CodecFault) (s : State) :
    (logFault u f s).fault = s.fault := rfl
@[simp] theorem logFault_sess (u : CodecUnit) (f : CodecFault) (s : State) : (logFault u f s).sess = s.sess := rfl
@[simp] theorem logFault_wdArmed (u : CodecUnit) (f : CodecFault) (s : State) :
    (logFault u f s).wdArmed = s.wdArmed := rfl
@[simp] theorem logFault_subscribed (u : CodecUnit) (f : CodecFault) (s : State) :
    (logFault u f s).subscribed = s.subscribed := rfl
@[simp] theorem logFault_writeTries (u : CodecUnit) (f : CodecFault) (s : State) :
    (logFault u f s).writeTries = s.writeTries := rfl
@[simp] theorem logFault_call (u : CodecUnit) (f : CodecFault) (s : State) : (logFault u f s).call = s.call := rfl
@[simp] theorem logFault_ret (u : CodecUnit) (f : CodecFault) (s : State) : (logFault u f s).ret = s.ret := rfl
@[simp] theorem logFault_calls (u : CodecUnit) (f : CodecFault) (s : State) :
    (logFault u f s).calls = s.calls := rfl
@[simp] theorem logFault_inbox (u : CodecUnit) (f : CodecFault) (s : State) :
    (logFault u f s).inbox = s.inbox := rfl
@[simp] theorem logFault_cfg (u : CodecUnit) (f : CodecFault) (s : State) : (logFault u f s).cfg = s.cfg := rfl
@[simp] theorem logFault_faultLog (u : CodecUnit) (f : CodecFault) (s : State) :
    (logFault u f s).faultLog = s.faultLog ++ [{ raisedBy := u, fault := f }] := rfl

@[simp] theorem raiseEnc_crc (f : CodecFault) (s : State) : (raiseCodec .enc f s).crc = s.crc := rfl
@[simp] theorem raiseEnc_bitcnt (f : CodecFault) (s : State) : (raiseCodec .enc f s).bitcnt = s.bitcnt := rfl
@[simp] theorem raiseEnc_req (f : CodecFault) (s : State) : (raiseCodec .enc f s).req = s.req := rfl
@[simp] theorem raiseEnc_tx (f : CodecFault) (s : State) : (raiseCodec .enc f s).tx = s.tx := rfl
@[simp] theorem raiseEnc_txKind (f : CodecFault) (s : State) : (raiseCodec .enc f s).txKind = s.txKind := rfl
@[simp] theorem raiseEnc_txFn (f : CodecFault) (s : State) : (raiseCodec .enc f s).txFn = s.txFn := rfl
@[simp] theorem raiseEnc_txValid (f : CodecFault) (s : State) : (raiseCodec .enc f s).txValid = false := rfl
@[simp] theorem raiseEnc_rx (f : CodecFault) (s : State) : (raiseCodec .enc f s).rx = s.rx := rfl
@[simp] theorem raiseEnc_est (f : CodecFault) (s : State) : (raiseCodec .enc f s).est = s.est := rfl
@[simp] theorem raiseEnc_latched (f : CodecFault) (s : State) : (raiseCodec .enc f s).latched = s.latched := rfl
@[simp] theorem raiseEnc_done (f : CodecFault) (s : State) : (raiseCodec .enc f s).done = s.done := rfl
@[simp] theorem raiseEnc_overshoot (f : CodecFault) (s : State) :
    (raiseCodec .enc f s).overshoot = s.overshoot := rfl
@[simp] theorem raiseEnc_rsp (f : CodecFault) (s : State) : (raiseCodec .enc f s).rsp = s.rsp := rfl
@[simp] theorem raiseEnc_rspValid (f : CodecFault) (s : State) : (raiseCodec .enc f s).rspValid = s.rspValid := rfl
@[simp] theorem raiseEnc_tstate (f : CodecFault) (s : State) : (raiseCodec .enc f s).tstate = s.tstate := rfl
@[simp] theorem raiseEnc_fault (f : CodecFault) (s : State) : (raiseCodec .enc f s).fault = f := rfl
@[simp] theorem raiseEnc_sess (f : CodecFault) (s : State) : (raiseCodec .enc f s).sess = s.sess := rfl
@[simp] theorem raiseEnc_wdArmed (f : CodecFault) (s : State) : (raiseCodec .enc f s).wdArmed = s.wdArmed := rfl
@[simp] theorem raiseEnc_subscribed (f : CodecFault) (s : State) :
    (raiseCodec .enc f s).subscribed = s.subscribed := rfl
@[simp] theorem raiseEnc_writeTries (f : CodecFault) (s : State) :
    (raiseCodec .enc f s).writeTries = s.writeTries := rfl
@[simp] theorem raiseEnc_call (f : CodecFault) (s : State) : (raiseCodec .enc f s).call = s.call := rfl
@[simp] theorem raiseEnc_ret (f : CodecFault) (s : State) : (raiseCodec .enc f s).ret = .raised f := rfl
@[simp] theorem raiseEnc_calls (f : CodecFault) (s : State) : (raiseCodec .enc f s).calls = s.calls := rfl
@[simp] theorem raiseEnc_faultLog (f : CodecFault) (s : State) :
    (raiseCodec .enc f s).faultLog = s.faultLog ++ [{ raisedBy := .enc, fault := f }] := rfl
@[simp] theorem raiseEnc_inbox (f : CodecFault) (s : State) : (raiseCodec .enc f s).inbox = s.inbox := rfl
@[simp] theorem raiseEnc_cfg (f : CodecFault) (s : State) : (raiseCodec .enc f s).cfg = s.cfg := rfl

@[simp] theorem raiseDec_crc (f : CodecFault) (s : State) : (raiseCodec .dec f s).crc = s.crc := rfl
@[simp] theorem raiseDec_bitcnt (f : CodecFault) (s : State) : (raiseCodec .dec f s).bitcnt = s.bitcnt := rfl
@[simp] theorem raiseDec_req (f : CodecFault) (s : State) : (raiseCodec .dec f s).req = s.req := rfl
@[simp] theorem raiseDec_tx (f : CodecFault) (s : State) : (raiseCodec .dec f s).tx = s.tx := rfl
@[simp] theorem raiseDec_txKind (f : CodecFault) (s : State) : (raiseCodec .dec f s).txKind = s.txKind := rfl
@[simp] theorem raiseDec_txFn (f : CodecFault) (s : State) : (raiseCodec .dec f s).txFn = s.txFn := rfl
@[simp] theorem raiseDec_txValid (f : CodecFault) (s : State) : (raiseCodec .dec f s).txValid = s.txValid := rfl
@[simp] theorem raiseDec_rx (f : CodecFault) (s : State) : (raiseCodec .dec f s).rx = s.rx := rfl
@[simp] theorem raiseDec_est (f : CodecFault) (s : State) : (raiseCodec .dec f s).est = s.est := rfl
@[simp] theorem raiseDec_latched (f : CodecFault) (s : State) : (raiseCodec .dec f s).latched = s.latched := rfl
@[simp] theorem raiseDec_done (f : CodecFault) (s : State) : (raiseCodec .dec f s).done = s.done := rfl
@[simp] theorem raiseDec_overshoot (f : CodecFault) (s : State) :
    (raiseCodec .dec f s).overshoot = s.overshoot := rfl
@[simp] theorem raiseDec_rsp (f : CodecFault) (s : State) : (raiseCodec .dec f s).rsp = Option.none := rfl
@[simp] theorem raiseDec_rspValid (f : CodecFault) (s : State) : (raiseCodec .dec f s).rspValid = false := rfl
@[simp] theorem raiseDec_tstate (f : CodecFault) (s : State) : (raiseCodec .dec f s).tstate = s.tstate := rfl
@[simp] theorem raiseDec_fault (f : CodecFault) (s : State) : (raiseCodec .dec f s).fault = f := rfl
@[simp] theorem raiseDec_sess (f : CodecFault) (s : State) : (raiseCodec .dec f s).sess = s.sess := rfl
@[simp] theorem raiseDec_wdArmed (f : CodecFault) (s : State) : (raiseCodec .dec f s).wdArmed = s.wdArmed := rfl
@[simp] theorem raiseDec_subscribed (f : CodecFault) (s : State) :
    (raiseCodec .dec f s).subscribed = s.subscribed := rfl
@[simp] theorem raiseDec_writeTries (f : CodecFault) (s : State) :
    (raiseCodec .dec f s).writeTries = s.writeTries := rfl
@[simp] theorem raiseDec_call (f : CodecFault) (s : State) : (raiseCodec .dec f s).call = s.call := rfl
@[simp] theorem raiseDec_ret (f : CodecFault) (s : State) : (raiseCodec .dec f s).ret = .raised f := rfl
@[simp] theorem raiseDec_calls (f : CodecFault) (s : State) : (raiseCodec .dec f s).calls = s.calls := rfl
@[simp] theorem raiseDec_faultLog (f : CodecFault) (s : State) :
    (raiseCodec .dec f s).faultLog = s.faultLog ++ [{ raisedBy := .dec, fault := f }] := rfl
@[simp] theorem raiseDec_inbox (f : CodecFault) (s : State) : (raiseCodec .dec f s).inbox = s.inbox := rfl
@[simp] theorem raiseDec_cfg (f : CodecFault) (s : State) : (raiseCodec .dec f s).cfg = s.cfg := rfl

@[simp] theorem freshIdle_crc (s : State) : (freshIdle s).crc = s.crc := rfl
@[simp] theorem freshIdle_bitcnt (s : State) : (freshIdle s).bitcnt = s.bitcnt := rfl
@[simp] theorem freshIdle_req (s : State) : (freshIdle s).req = s.req := rfl
@[simp] theorem freshIdle_tx (s : State) : (freshIdle s).tx = s.tx := rfl
@[simp] theorem freshIdle_txKind (s : State) : (freshIdle s).txKind = s.txKind := rfl
@[simp] theorem freshIdle_txFn (s : State) : (freshIdle s).txFn = s.txFn := rfl
@[simp] theorem freshIdle_txValid (s : State) : (freshIdle s).txValid = s.txValid := rfl
@[simp] theorem freshIdle_rx (s : State) : (freshIdle s).rx = [] := rfl
@[simp] theorem freshIdle_est (s : State) : (freshIdle s).est = 0#16 := rfl
@[simp] theorem freshIdle_latched (s : State) : (freshIdle s).latched = false := rfl
@[simp] theorem freshIdle_done (s : State) : (freshIdle s).done = false := rfl
@[simp] theorem freshIdle_overshoot (s : State) : (freshIdle s).overshoot = false := rfl
@[simp] theorem freshIdle_rsp (s : State) : (freshIdle s).rsp = Option.none := rfl
@[simp] theorem freshIdle_rspValid (s : State) : (freshIdle s).rspValid = false := rfl
@[simp] theorem freshIdle_tstate (s : State) : (freshIdle s).tstate = .none := rfl
@[simp] theorem freshIdle_fault (s : State) : (freshIdle s).fault = .none := rfl
@[simp] theorem freshIdle_sess (s : State) : (freshIdle s).sess = .idle := rfl
@[simp] theorem freshIdle_wdArmed (s : State) : (freshIdle s).wdArmed = false := rfl
@[simp] theorem freshIdle_subscribed (s : State) : (freshIdle s).subscribed = s.subscribed := rfl
@[simp] theorem freshIdle_writeTries (s : State) : (freshIdle s).writeTries = 0 := rfl
@[simp] theorem freshIdle_call (s : State) : (freshIdle s).call = .none := rfl
@[simp] theorem freshIdle_ret (s : State) : (freshIdle s).ret = .nothing := rfl
@[simp] theorem freshIdle_calls (s : State) : (freshIdle s).calls = s.calls := rfl
@[simp] theorem freshIdle_faultLog (s : State) : (freshIdle s).faultLog = s.faultLog := rfl
@[simp] theorem freshIdle_inbox (s : State) : (freshIdle s).inbox = s.inbox := rfl
@[simp] theorem freshIdle_cfg (s : State) : (freshIdle s).cfg = s.cfg := rfl

@[simp] theorem transportCall_crc (c : TransportCall) (s : State) : (transportCall c s).crc = s.crc := rfl
@[simp] theorem transportCall_bitcnt (c : TransportCall) (s : State) : (transportCall c s).bitcnt = s.bitcnt := rfl
@[simp] theorem transportCall_req (c : TransportCall) (s : State) : (transportCall c s).req = s.req := rfl
@[simp] theorem transportCall_tx (c : TransportCall) (s : State) : (transportCall c s).tx = s.tx := rfl
@[simp] theorem transportCall_txKind (c : TransportCall) (s : State) : (transportCall c s).txKind = s.txKind := rfl
@[simp] theorem transportCall_txFn (c : TransportCall) (s : State) : (transportCall c s).txFn = s.txFn := rfl
@[simp] theorem transportCall_txValid (c : TransportCall) (s : State) :
    (transportCall c s).txValid = s.txValid := rfl
@[simp] theorem transportCall_rx (c : TransportCall) (s : State) : (transportCall c s).rx = s.rx := rfl
@[simp] theorem transportCall_est (c : TransportCall) (s : State) : (transportCall c s).est = s.est := rfl
@[simp] theorem transportCall_latched (c : TransportCall) (s : State) :
    (transportCall c s).latched = s.latched := rfl
@[simp] theorem transportCall_done (c : TransportCall) (s : State) : (transportCall c s).done = s.done := rfl
@[simp] theorem transportCall_overshoot (c : TransportCall) (s : State) :
    (transportCall c s).overshoot = s.overshoot := rfl
@[simp] theorem transportCall_rsp (c : TransportCall) (s : State) : (transportCall c s).rsp = s.rsp := rfl
@[simp] theorem transportCall_rspValid (c : TransportCall) (s : State) :
    (transportCall c s).rspValid = s.rspValid := rfl
@[simp] theorem transportCall_tstate (c : TransportCall) (s : State) : (transportCall c s).tstate = s.tstate := rfl
@[simp] theorem transportCall_fault (c : TransportCall) (s : State) : (transportCall c s).fault = s.fault := rfl
@[simp] theorem transportCall_sess (c : TransportCall) (s : State) : (transportCall c s).sess = s.sess := rfl
@[simp] theorem transportCall_wdArmed (c : TransportCall) (s : State) :
    (transportCall c s).wdArmed = s.wdArmed := rfl
@[simp] theorem transportCall_subscribed (c : TransportCall) (s : State) :
    (transportCall c s).subscribed = s.subscribed := rfl
@[simp] theorem transportCall_writeTries (c : TransportCall) (s : State) :
    (transportCall c s).writeTries = s.writeTries := rfl
@[simp] theorem transportCall_call (c : TransportCall) (s : State) : (transportCall c s).call = s.call := rfl
@[simp] theorem transportCall_ret (c : TransportCall) (s : State) : (transportCall c s).ret = s.ret := rfl
@[simp] theorem transportCall_calls (c : TransportCall) (s : State) :
    (transportCall c s).calls = s.calls ++ [c] := rfl
@[simp] theorem transportCall_faultLog (c : TransportCall) (s : State) :
    (transportCall c s).faultLog = s.faultLog := rfl
@[simp] theorem transportCall_inbox (c : TransportCall) (s : State) : (transportCall c s).inbox = s.inbox := rfl
@[simp] theorem transportCall_cfg (c : TransportCall) (s : State) : (transportCall c s).cfg = s.cfg := rfl

@[simp] theorem subscribe_crc (s : State) : (subscribe s).crc = s.crc := rfl
@[simp] theorem subscribe_bitcnt (s : State) : (subscribe s).bitcnt = s.bitcnt := rfl
@[simp] theorem subscribe_req (s : State) : (subscribe s).req = s.req := rfl
@[simp] theorem subscribe_tx (s : State) : (subscribe s).tx = s.tx := rfl
@[simp] theorem subscribe_txKind (s : State) : (subscribe s).txKind = s.txKind := rfl
@[simp] theorem subscribe_txFn (s : State) : (subscribe s).txFn = s.txFn := rfl
@[simp] theorem subscribe_txValid (s : State) : (subscribe s).txValid = s.txValid := rfl
@[simp] theorem subscribe_rx (s : State) : (subscribe s).rx = s.rx := rfl
@[simp] theorem subscribe_est (s : State) : (subscribe s).est = s.est := rfl
@[simp] theorem subscribe_latched (s : State) : (subscribe s).latched = s.latched := rfl
@[simp] theorem subscribe_done (s : State) : (subscribe s).done = s.done := rfl
@[simp] theorem subscribe_overshoot (s : State) : (subscribe s).overshoot = s.overshoot := rfl
@[simp] theorem subscribe_rsp (s : State) : (subscribe s).rsp = s.rsp := rfl
@[simp] theorem subscribe_rspValid (s : State) : (subscribe s).rspValid = s.rspValid := rfl
@[simp] theorem subscribe_tstate (s : State) : (subscribe s).tstate = s.tstate := rfl
@[simp] theorem subscribe_fault (s : State) : (subscribe s).fault = s.fault := rfl
@[simp] theorem subscribe_sess (s : State) : (subscribe s).sess = s.sess := rfl
@[simp] theorem subscribe_wdArmed (s : State) : (subscribe s).wdArmed = s.wdArmed := rfl
@[simp] theorem subscribe_subscribed (s : State) : (subscribe s).subscribed = true := rfl
@[simp] theorem subscribe_writeTries (s : State) : (subscribe s).writeTries = s.writeTries := rfl
@[simp] theorem subscribe_call (s : State) : (subscribe s).call = s.call := rfl
@[simp] theorem subscribe_ret (s : State) : (subscribe s).ret = s.ret := rfl
@[simp] theorem subscribe_calls (s : State) : (subscribe s).calls = s.calls ++ [.subscribe] := rfl
@[simp] theorem subscribe_faultLog (s : State) : (subscribe s).faultLog = s.faultLog := rfl
@[simp] theorem subscribe_inbox (s : State) : (subscribe s).inbox = s.inbox := rfl
@[simp] theorem subscribe_cfg (s : State) : (subscribe s).cfg = s.cfg := rfl

@[simp] theorem unsubscribe_crc (s : State) : (unsubscribe s).crc = s.crc := rfl
@[simp] theorem unsubscribe_bitcnt (s : State) : (unsubscribe s).bitcnt = s.bitcnt := rfl
@[simp] theorem unsubscribe_req (s : State) : (unsubscribe s).req = s.req := rfl
@[simp] theorem unsubscribe_tx (s : State) : (unsubscribe s).tx = s.tx := rfl
@[simp] theorem unsubscribe_txKind (s : State) : (unsubscribe s).txKind = s.txKind := rfl
@[simp] theorem unsubscribe_txFn (s : State) : (unsubscribe s).txFn = s.txFn := rfl
@[simp] theorem unsubscribe_txValid (s : State) : (unsubscribe s).txValid = s.txValid := rfl
@[simp] theorem unsubscribe_rx (s : State) : (unsubscribe s).rx = s.rx := rfl
@[simp] theorem unsubscribe_est (s : State) : (unsubscribe s).est = s.est := rfl
@[simp] theorem unsubscribe_latched (s : State) : (unsubscribe s).latched = s.latched := rfl
@[simp] theorem unsubscribe_done (s : State) : (unsubscribe s).done = s.done := rfl
@[simp] theorem unsubscribe_overshoot (s : State) : (unsubscribe s).overshoot = s.overshoot := rfl
@[simp] theorem unsubscribe_rsp (s : State) : (unsubscribe s).rsp = s.rsp := rfl
@[simp] theorem unsubscribe_rspValid (s : State) : (unsubscribe s).rspValid = s.rspValid := rfl
@[simp] theorem unsubscribe_tstate (s : State) : (unsubscribe s).tstate = s.tstate := rfl
@[simp] theorem unsubscribe_fault (s : State) : (unsubscribe s).fault = s.fault := rfl
@[simp] theorem unsubscribe_sess (s : State) : (unsubscribe s).sess = s.sess := rfl
@[simp] theorem unsubscribe_wdArmed (s : State) : (unsubscribe s).wdArmed = s.wdArmed := rfl
@[simp] theorem unsubscribe_subscribed (s : State) : (unsubscribe s).subscribed = false := rfl
@[simp] theorem unsubscribe_writeTries (s : State) : (unsubscribe s).writeTries = s.writeTries := rfl
@[simp] theorem unsubscribe_call (s : State) : (unsubscribe s).call = s.call := rfl
@[simp] theorem unsubscribe_ret (s : State) : (unsubscribe s).ret = s.ret := rfl
@[simp] theorem unsubscribe_calls (s : State) : (unsubscribe s).calls = s.calls ++ [.unsubscribe] := rfl
@[simp] theorem unsubscribe_faultLog (s : State) : (unsubscribe s).faultLog = s.faultLog := rfl
@[simp] theorem unsubscribe_inbox (s : State) : (unsubscribe s).inbox = s.inbox := rfl
@[simp] theorem unsubscribe_cfg (s : State) : (unsubscribe s).cfg = s.cfg := rfl

@[simp] theorem leaveAwaiting_crc (d : SessState) (t : TransmissionState) (s : State) :
    (leaveAwaiting d t s).crc = s.crc := rfl
@[simp] theorem leaveAwaiting_bitcnt (d : SessState) (t : TransmissionState) (s : State) :
    (leaveAwaiting d t s).bitcnt = s.bitcnt := rfl
@[simp] theorem leaveAwaiting_req (d : SessState) (t : TransmissionState) (s : State) :
    (leaveAwaiting d t s).req = s.req := rfl
@[simp] theorem leaveAwaiting_tx (d : SessState) (t : TransmissionState) (s : State) :
    (leaveAwaiting d t s).tx = s.tx := rfl
@[simp] theorem leaveAwaiting_txKind (d : SessState) (t : TransmissionState) (s : State) :
    (leaveAwaiting d t s).txKind = s.txKind := rfl
@[simp] theorem leaveAwaiting_txFn (d : SessState) (t : TransmissionState) (s : State) :
    (leaveAwaiting d t s).txFn = s.txFn := rfl
@[simp] theorem leaveAwaiting_txValid (d : SessState) (t : TransmissionState) (s : State) :
    (leaveAwaiting d t s).txValid = s.txValid := rfl
@[simp] theorem leaveAwaiting_rx (d : SessState) (t : TransmissionState) (s : State) :
    (leaveAwaiting d t s).rx = s.rx := rfl
@[simp] theorem leaveAwaiting_est (d : SessState) (t : TransmissionState) (s : State) :
    (leaveAwaiting d t s).est = s.est := rfl
@[simp] theorem leaveAwaiting_latched (d : SessState) (t : TransmissionState) (s : State) :
    (leaveAwaiting d t s).latched = s.latched := rfl
@[simp] theorem leaveAwaiting_done (d : SessState) (t : TransmissionState) (s : State) :
    (leaveAwaiting d t s).done = s.done := rfl
@[simp] theorem leaveAwaiting_overshoot (d : SessState) (t : TransmissionState) (s : State) :
    (leaveAwaiting d t s).overshoot = s.overshoot := rfl
@[simp] theorem leaveAwaiting_rsp (d : SessState) (t : TransmissionState) (s : State) :
    (leaveAwaiting d t s).rsp = s.rsp := rfl
@[simp] theorem leaveAwaiting_rspValid (d : SessState) (t : TransmissionState) (s : State) :
    (leaveAwaiting d t s).rspValid = s.rspValid := rfl
@[simp] theorem leaveAwaiting_tstate (d : SessState) (t : TransmissionState) (s : State) :
    (leaveAwaiting d t s).tstate = t := rfl
@[simp] theorem leaveAwaiting_fault (d : SessState) (t : TransmissionState) (s : State) :
    (leaveAwaiting d t s).fault = s.fault := rfl
@[simp] theorem leaveAwaiting_sess (d : SessState) (t : TransmissionState) (s : State) :
    (leaveAwaiting d t s).sess = d := rfl
@[simp] theorem leaveAwaiting_wdArmed (d : SessState) (t : TransmissionState) (s : State) :
    (leaveAwaiting d t s).wdArmed = false := rfl
@[simp] theorem leaveAwaiting_subscribed (d : SessState) (t : TransmissionState) (s : State) :
    (leaveAwaiting d t s).subscribed = false := rfl
@[simp] theorem leaveAwaiting_writeTries (d : SessState) (t : TransmissionState) (s : State) :
    (leaveAwaiting d t s).writeTries = s.writeTries := rfl
@[simp] theorem leaveAwaiting_call (d : SessState) (t : TransmissionState) (s : State) :
    (leaveAwaiting d t s).call = s.call := rfl
@[simp] theorem leaveAwaiting_ret (d : SessState) (t : TransmissionState) (s : State) :
    (leaveAwaiting d t s).ret = .exchange (.result s.rx t Option.none) := rfl
@[simp] theorem leaveAwaiting_calls (d : SessState) (t : TransmissionState) (s : State) :
    (leaveAwaiting d t s).calls = s.calls ++ [.unsubscribe] := rfl
@[simp] theorem leaveAwaiting_faultLog (d : SessState) (t : TransmissionState) (s : State) :
    (leaveAwaiting d t s).faultLog = s.faultLog := rfl
@[simp] theorem leaveAwaiting_inbox (d : SessState) (t : TransmissionState) (s : State) :
    (leaveAwaiting d t s).inbox = s.inbox := rfl
@[simp] theorem leaveAwaiting_cfg (d : SessState) (t : TransmissionState) (s : State) :
    (leaveAwaiting d t s).cfg = s.cfg := rfl

@[simp] theorem leaveSending_crc (d : SessState) (t : TransmissionState) (s : State) :
    (leaveSending d t s).crc = s.crc := rfl
@[simp] theorem leaveSending_bitcnt (d : SessState) (t : TransmissionState) (s : State) :
    (leaveSending d t s).bitcnt = s.bitcnt := rfl
@[simp] theorem leaveSending_req (d : SessState) (t : TransmissionState) (s : State) :
    (leaveSending d t s).req = s.req := rfl
@[simp] theorem leaveSending_tx (d : SessState) (t : TransmissionState) (s : State) :
    (leaveSending d t s).tx = s.tx := rfl
@[simp] theorem leaveSending_txKind (d : SessState) (t : TransmissionState) (s : State) :
    (leaveSending d t s).txKind = s.txKind := rfl
@[simp] theorem leaveSending_txFn (d : SessState) (t : TransmissionState) (s : State) :
    (leaveSending d t s).txFn = s.txFn := rfl
@[simp] theorem leaveSending_txValid (d : SessState) (t : TransmissionState) (s : State) :
    (leaveSending d t s).txValid = s.txValid := rfl
@[simp] theorem leaveSending_rx (d : SessState) (t : TransmissionState) (s : State) :
    (leaveSending d t s).rx = s.rx := rfl
@[simp] theorem leaveSending_est (d : SessState) (t : TransmissionState) (s : State) :
    (leaveSending d t s).est = s.est := rfl
@[simp] theorem leaveSending_latched (d : SessState) (t : TransmissionState) (s : State) :
    (leaveSending d t s).latched = s.latched := rfl
@[simp] theorem leaveSending_done (d : SessState) (t : TransmissionState) (s : State) :
    (leaveSending d t s).done = s.done := rfl
@[simp] theorem leaveSending_overshoot (d : SessState) (t : TransmissionState) (s : State) :
    (leaveSending d t s).overshoot = s.overshoot := rfl
@[simp] theorem leaveSending_rsp (d : SessState) (t : TransmissionState) (s : State) :
    (leaveSending d t s).rsp = s.rsp := rfl
@[simp] theorem leaveSending_rspValid (d : SessState) (t : TransmissionState) (s : State) :
    (leaveSending d t s).rspValid = s.rspValid := rfl
@[simp] theorem leaveSending_tstate (d : SessState) (t : TransmissionState) (s : State) :
    (leaveSending d t s).tstate = t := rfl
@[simp] theorem leaveSending_fault (d : SessState) (t : TransmissionState) (s : State) :
    (leaveSending d t s).fault = s.fault := rfl
@[simp] theorem leaveSending_sess (d : SessState) (t : TransmissionState) (s : State) :
    (leaveSending d t s).sess = d := rfl
@[simp] theorem leaveSending_wdArmed (d : SessState) (t : TransmissionState) (s : State) :
    (leaveSending d t s).wdArmed = s.wdArmed := rfl
@[simp] theorem leaveSending_subscribed (d : SessState) (t : TransmissionState) (s : State) :
    (leaveSending d t s).subscribed = s.subscribed := rfl
@[simp] theorem leaveSending_writeTries (d : SessState) (t : TransmissionState) (s : State) :
    (leaveSending d t s).writeTries = s.writeTries := rfl
@[simp] theorem leaveSending_call (d : SessState) (t : TransmissionState) (s : State) :
    (leaveSending d t s).call = .none := rfl
@[simp] theorem leaveSending_ret (d : SessState) (t : TransmissionState) (s : State) :
    (leaveSending d t s).ret = .exchange (.result [] t Option.none) := rfl
@[simp] theorem leaveSending_calls (d : SessState) (t : TransmissionState) (s : State) :
    (leaveSending d t s).calls = s.calls := rfl
@[simp] theorem leaveSending_faultLog (d : SessState) (t : TransmissionState) (s : State) :
    (leaveSending d t s).faultLog = s.faultLog := rfl
@[simp] theorem leaveSending_inbox (d : SessState) (t : TransmissionState) (s : State) :
    (leaveSending d t s).inbox = s.inbox := rfl
@[simp] theorem leaveSending_cfg (d : SessState) (t : TransmissionState) (s : State) :
    (leaveSending d t s).cfg = s.cfg := rfl

@[simp] theorem loadRequest_crc (a : Byte) (fn : FnSel) (addr tail : List Byte) (s : State) :
    (loadRequest a fn addr tail s).crc = s.crc := rfl
@[simp] theorem loadRequest_bitcnt (a : Byte) (fn : FnSel) (addr tail : List Byte) (s : State) :
    (loadRequest a fn addr tail s).bitcnt = s.bitcnt := rfl
@[simp] theorem loadRequest_req (a : Byte) (fn : FnSel) (addr tail : List Byte) (s : State) :
    (loadRequest a fn addr tail s).req = { slave := a, fn := fn, addr := addr, tail := tail } := rfl
@[simp] theorem loadRequest_tx (a : Byte) (fn : FnSel) (addr tail : List Byte) (s : State) :
    (loadRequest a fn addr tail s).tx = s.tx := rfl
@[simp] theorem loadRequest_txKind (a : Byte) (fn : FnSel) (addr tail : List Byte) (s : State) :
    (loadRequest a fn addr tail s).txKind = s.txKind := rfl
@[simp] theorem loadRequest_txFn (a : Byte) (fn : FnSel) (addr tail : List Byte) (s : State) :
    (loadRequest a fn addr tail s).txFn = s.txFn := rfl
@[simp] theorem loadRequest_txValid (a : Byte) (fn : FnSel) (addr tail : List Byte) (s : State) :
    (loadRequest a fn addr tail s).txValid = s.txValid := rfl
@[simp] theorem loadRequest_rx (a : Byte) (fn : FnSel) (addr tail : List Byte) (s : State) :
    (loadRequest a fn addr tail s).rx = s.rx := rfl
@[simp] theorem loadRequest_est (a : Byte) (fn : FnSel) (addr tail : List Byte) (s : State) :
    (loadRequest a fn addr tail s).est = s.est := rfl
@[simp] theorem loadRequest_latched (a : Byte) (fn : FnSel) (addr tail : List Byte) (s : State) :
    (loadRequest a fn addr tail s).latched = s.latched := rfl
@[simp] theorem loadRequest_done (a : Byte) (fn : FnSel) (addr tail : List Byte) (s : State) :
    (loadRequest a fn addr tail s).done = s.done := rfl
@[simp] theorem loadRequest_overshoot (a : Byte) (fn : FnSel) (addr tail : List Byte) (s : State) :
    (loadRequest a fn addr tail s).overshoot = s.overshoot := rfl
@[simp] theorem loadRequest_rsp (a : Byte) (fn : FnSel) (addr tail : List Byte) (s : State) :
    (loadRequest a fn addr tail s).rsp = s.rsp := rfl
@[simp] theorem loadRequest_rspValid (a : Byte) (fn : FnSel) (addr tail : List Byte) (s : State) :
    (loadRequest a fn addr tail s).rspValid = s.rspValid := rfl
@[simp] theorem loadRequest_tstate (a : Byte) (fn : FnSel) (addr tail : List Byte) (s : State) :
    (loadRequest a fn addr tail s).tstate = s.tstate := rfl
@[simp] theorem loadRequest_fault (a : Byte) (fn : FnSel) (addr tail : List Byte) (s : State) :
    (loadRequest a fn addr tail s).fault = s.fault := rfl
@[simp] theorem loadRequest_sess (a : Byte) (fn : FnSel) (addr tail : List Byte) (s : State) :
    (loadRequest a fn addr tail s).sess = s.sess := rfl
@[simp] theorem loadRequest_wdArmed (a : Byte) (fn : FnSel) (addr tail : List Byte) (s : State) :
    (loadRequest a fn addr tail s).wdArmed = s.wdArmed := rfl
@[simp] theorem loadRequest_subscribed (a : Byte) (fn : FnSel) (addr tail : List Byte) (s : State) :
    (loadRequest a fn addr tail s).subscribed = s.subscribed := rfl
@[simp] theorem loadRequest_writeTries (a : Byte) (fn : FnSel) (addr tail : List Byte) (s : State) :
    (loadRequest a fn addr tail s).writeTries = s.writeTries := rfl
@[simp] theorem loadRequest_call (a : Byte) (fn : FnSel) (addr tail : List Byte) (s : State) :
    (loadRequest a fn addr tail s).call = s.call := rfl
@[simp] theorem loadRequest_ret (a : Byte) (fn : FnSel) (addr tail : List Byte) (s : State) :
    (loadRequest a fn addr tail s).ret = s.ret := rfl
@[simp] theorem loadRequest_calls (a : Byte) (fn : FnSel) (addr tail : List Byte) (s : State) :
    (loadRequest a fn addr tail s).calls = s.calls := rfl
@[simp] theorem loadRequest_faultLog (a : Byte) (fn : FnSel) (addr tail : List Byte) (s : State) :
    (loadRequest a fn addr tail s).faultLog = s.faultLog := rfl
@[simp] theorem loadRequest_inbox (a : Byte) (fn : FnSel) (addr tail : List Byte) (s : State) :
    (loadRequest a fn addr tail s).inbox = s.inbox := rfl
@[simp] theorem loadRequest_cfg (a : Byte) (fn : FnSel) (addr tail : List Byte) (s : State) :
    (loadRequest a fn addr tail s).cfg = s.cfg := rfl

@[simp] theorem writeTx_crc (t : FunctionType) (f : TxFrame) (s : State) :
    (writeTx t f s).crc = wordOfBytes f.crcLo f.crcHi := rfl
@[simp] theorem writeTx_bitcnt (t : FunctionType) (f : TxFrame) (s : State) : (writeTx t f s).bitcnt = 0#4 := rfl
@[simp] theorem writeTx_req (t : FunctionType) (f : TxFrame) (s : State) : (writeTx t f s).req = s.req := rfl
@[simp] theorem writeTx_tx (t : FunctionType) (f : TxFrame) (s : State) : (writeTx t f s).tx = f := rfl
@[simp] theorem writeTx_txKind (t : FunctionType) (f : TxFrame) (s : State) :
    (writeTx t f s).txKind = requestKind t := rfl
@[simp] theorem writeTx_txFn (t : FunctionType) (f : TxFrame) (s : State) : (writeTx t f s).txFn = t := rfl
@[simp] theorem writeTx_txValid (t : FunctionType) (f : TxFrame) (s : State) : (writeTx t f s).txValid = true := rfl
@[simp] theorem writeTx_rx (t : FunctionType) (f : TxFrame) (s : State) : (writeTx t f s).rx = s.rx := rfl
@[simp] theorem writeTx_est (t : FunctionType) (f : TxFrame) (s : State) : (writeTx t f s).est = s.est := rfl
@[simp] theorem writeTx_latched (t : FunctionType) (f : TxFrame) (s : State) :
    (writeTx t f s).latched = s.latched := rfl
@[simp] theorem writeTx_done (t : FunctionType) (f : TxFrame) (s : State) : (writeTx t f s).done = s.done := rfl
@[simp] theorem writeTx_overshoot (t : FunctionType) (f : TxFrame) (s : State) :
    (writeTx t f s).overshoot = s.overshoot := rfl
@[simp] theorem writeTx_rsp (t : FunctionType) (f : TxFrame) (s : State) : (writeTx t f s).rsp = s.rsp := rfl
@[simp] theorem writeTx_rspValid (t : FunctionType) (f : TxFrame) (s : State) :
    (writeTx t f s).rspValid = s.rspValid := rfl
@[simp] theorem writeTx_tstate (t : FunctionType) (f : TxFrame) (s : State) :
    (writeTx t f s).tstate = s.tstate := rfl
@[simp] theorem writeTx_fault (t : FunctionType) (f : TxFrame) (s : State) : (writeTx t f s).fault = .none := rfl
@[simp] theorem writeTx_sess (t : FunctionType) (f : TxFrame) (s : State) : (writeTx t f s).sess = s.sess := rfl
@[simp] theorem writeTx_wdArmed (t : FunctionType) (f : TxFrame) (s : State) :
    (writeTx t f s).wdArmed = s.wdArmed := rfl
@[simp] theorem writeTx_subscribed (t : FunctionType) (f : TxFrame) (s : State) :
    (writeTx t f s).subscribed = s.subscribed := rfl
@[simp] theorem writeTx_writeTries (t : FunctionType) (f : TxFrame) (s : State) :
    (writeTx t f s).writeTries = s.writeTries := rfl
@[simp] theorem writeTx_call (t : FunctionType) (f : TxFrame) (s : State) : (writeTx t f s).call = s.call := rfl
@[simp] theorem writeTx_ret (t : FunctionType) (f : TxFrame) (s : State) : (writeTx t f s).ret = .encoded f := rfl
@[simp] theorem writeTx_calls (t : FunctionType) (f : TxFrame) (s : State) : (writeTx t f s).calls = s.calls := rfl
@[simp] theorem writeTx_faultLog (t : FunctionType) (f : TxFrame) (s : State) :
    (writeTx t f s).faultLog = s.faultLog := rfl
@[simp] theorem writeTx_inbox (t : FunctionType) (f : TxFrame) (s : State) : (writeTx t f s).inbox = s.inbox := rfl
@[simp] theorem writeTx_cfg (t : FunctionType) (f : TxFrame) (s : State) : (writeTx t f s).cfg = s.cfg := rfl

@[simp] theorem armEstimate_crc (s : State) : (armEstimate s).crc = s.crc := rfl
@[simp] theorem armEstimate_bitcnt (s : State) : (armEstimate s).bitcnt = s.bitcnt := rfl
@[simp] theorem armEstimate_req (s : State) : (armEstimate s).req = s.req := rfl
@[simp] theorem armEstimate_tx (s : State) : (armEstimate s).tx = s.tx := rfl
@[simp] theorem armEstimate_txKind (s : State) : (armEstimate s).txKind = s.txKind := rfl
@[simp] theorem armEstimate_txFn (s : State) : (armEstimate s).txFn = s.txFn := rfl
@[simp] theorem armEstimate_txValid (s : State) : (armEstimate s).txValid = s.txValid := rfl
@[simp] theorem armEstimate_rx (s : State) : (armEstimate s).rx = s.rx := rfl
@[simp] theorem armEstimate_est (s : State) : (armEstimate s).est = provisionalEstimate s.txKind := rfl
@[simp] theorem armEstimate_latched (s : State) : (armEstimate s).latched = false := rfl
@[simp] theorem armEstimate_done (s : State) : (armEstimate s).done = s.done := rfl
@[simp] theorem armEstimate_overshoot (s : State) : (armEstimate s).overshoot = s.overshoot := rfl
@[simp] theorem armEstimate_rsp (s : State) : (armEstimate s).rsp = s.rsp := rfl
@[simp] theorem armEstimate_rspValid (s : State) : (armEstimate s).rspValid = s.rspValid := rfl
@[simp] theorem armEstimate_tstate (s : State) : (armEstimate s).tstate = s.tstate := rfl
@[simp] theorem armEstimate_fault (s : State) : (armEstimate s).fault = s.fault := rfl
@[simp] theorem armEstimate_sess (s : State) : (armEstimate s).sess = s.sess := rfl
@[simp] theorem armEstimate_wdArmed (s : State) : (armEstimate s).wdArmed = s.wdArmed := rfl
@[simp] theorem armEstimate_subscribed (s : State) : (armEstimate s).subscribed = s.subscribed := rfl
@[simp] theorem armEstimate_writeTries (s : State) : (armEstimate s).writeTries = s.writeTries := rfl
@[simp] theorem armEstimate_call (s : State) : (armEstimate s).call = s.call := rfl
@[simp] theorem armEstimate_ret (s : State) : (armEstimate s).ret = s.ret := rfl
@[simp] theorem armEstimate_calls (s : State) : (armEstimate s).calls = s.calls := rfl
@[simp] theorem armEstimate_faultLog (s : State) : (armEstimate s).faultLog = s.faultLog := rfl
@[simp] theorem armEstimate_inbox (s : State) : (armEstimate s).inbox = s.inbox := rfl
@[simp] theorem armEstimate_cfg (s : State) : (armEstimate s).cfg = s.cfg := rfl

@[simp] theorem restartWatchdog_crc (s : State) : (restartWatchdog s).crc = s.crc := rfl
@[simp] theorem restartWatchdog_bitcnt (s : State) : (restartWatchdog s).bitcnt = s.bitcnt := rfl
@[simp] theorem restartWatchdog_req (s : State) : (restartWatchdog s).req = s.req := rfl
@[simp] theorem restartWatchdog_tx (s : State) : (restartWatchdog s).tx = s.tx := rfl
@[simp] theorem restartWatchdog_txKind (s : State) : (restartWatchdog s).txKind = s.txKind := rfl
@[simp] theorem restartWatchdog_txFn (s : State) : (restartWatchdog s).txFn = s.txFn := rfl
@[simp] theorem restartWatchdog_txValid (s : State) : (restartWatchdog s).txValid = s.txValid := rfl
@[simp] theorem restartWatchdog_rx (s : State) : (restartWatchdog s).rx = s.rx := rfl
@[simp] theorem restartWatchdog_est (s : State) : (restartWatchdog s).est = s.est := rfl
@[simp] theorem restartWatchdog_latched (s : State) : (restartWatchdog s).latched = s.latched := rfl
@[simp] theorem restartWatchdog_done (s : State) : (restartWatchdog s).done = s.done := rfl
@[simp] theorem restartWatchdog_overshoot (s : State) : (restartWatchdog s).overshoot = s.overshoot := rfl
@[simp] theorem restartWatchdog_rsp (s : State) : (restartWatchdog s).rsp = s.rsp := rfl
@[simp] theorem restartWatchdog_rspValid (s : State) : (restartWatchdog s).rspValid = s.rspValid := rfl
@[simp] theorem restartWatchdog_tstate (s : State) : (restartWatchdog s).tstate = s.tstate := rfl
@[simp] theorem restartWatchdog_fault (s : State) : (restartWatchdog s).fault = s.fault := rfl
@[simp] theorem restartWatchdog_sess (s : State) : (restartWatchdog s).sess = s.sess := rfl
@[simp] theorem restartWatchdog_wdArmed (s : State) : (restartWatchdog s).wdArmed = true := rfl
@[simp] theorem restartWatchdog_subscribed (s : State) : (restartWatchdog s).subscribed = s.subscribed := rfl
@[simp] theorem restartWatchdog_writeTries (s : State) : (restartWatchdog s).writeTries = s.writeTries := rfl
@[simp] theorem restartWatchdog_call (s : State) : (restartWatchdog s).call = s.call := rfl
@[simp] theorem restartWatchdog_ret (s : State) : (restartWatchdog s).ret = s.ret := rfl
@[simp] theorem restartWatchdog_calls (s : State) : (restartWatchdog s).calls = s.calls := rfl
@[simp] theorem restartWatchdog_faultLog (s : State) : (restartWatchdog s).faultLog = s.faultLog := rfl
@[simp] theorem restartWatchdog_inbox (s : State) : (restartWatchdog s).inbox = s.inbox := rfl
@[simp] theorem restartWatchdog_cfg (s : State) : (restartWatchdog s).cfg = s.cfg := rfl

@[simp] theorem armExchange_crc (s : State) : (armExchange s).crc = s.crc := by simp [armExchange]
@[simp] theorem armExchange_bitcnt (s : State) : (armExchange s).bitcnt = s.bitcnt := by simp [armExchange]
@[simp] theorem armExchange_req (s : State) : (armExchange s).req = s.req := by simp [armExchange]
@[simp] theorem armExchange_tx (s : State) : (armExchange s).tx = s.tx := by simp [armExchange]
@[simp] theorem armExchange_txKind (s : State) : (armExchange s).txKind = s.txKind := by simp [armExchange]
@[simp] theorem armExchange_txFn (s : State) : (armExchange s).txFn = s.txFn := by simp [armExchange]
@[simp] theorem armExchange_txValid (s : State) : (armExchange s).txValid = s.txValid := by simp [armExchange]
@[simp] theorem armExchange_rx (s : State) : (armExchange s).rx = s.rx := by simp [armExchange]
@[simp] theorem armExchange_est (s : State) : (armExchange s).est = provisionalEstimate s.txKind := by simp [armExchange]
@[simp] theorem armExchange_latched (s : State) : (armExchange s).latched = false := by simp [armExchange]
@[simp] theorem armExchange_done (s : State) : (armExchange s).done = s.done := by simp [armExchange]
@[simp] theorem armExchange_overshoot (s : State) : (armExchange s).overshoot = s.overshoot := by simp [armExchange]
@[simp] theorem armExchange_rsp (s : State) : (armExchange s).rsp = s.rsp := by simp [armExchange]
@[simp] theorem armExchange_rspValid (s : State) : (armExchange s).rspValid = s.rspValid := by simp [armExchange]
@[simp] theorem armExchange_tstate (s : State) : (armExchange s).tstate = s.tstate := by simp [armExchange]
@[simp] theorem armExchange_fault (s : State) : (armExchange s).fault = s.fault := by simp [armExchange]
@[simp] theorem armExchange_sess (s : State) : (armExchange s).sess = .awaitingResponse := by simp [armExchange]
@[simp] theorem armExchange_wdArmed (s : State) : (armExchange s).wdArmed = true := by simp [armExchange]
@[simp] theorem armExchange_subscribed (s : State) : (armExchange s).subscribed = true := by simp [armExchange]
@[simp] theorem armExchange_writeTries (s : State) : (armExchange s).writeTries = s.writeTries := by simp [armExchange]
@[simp] theorem armExchange_call (s : State) : (armExchange s).call = .none := by simp [armExchange]
@[simp] theorem armExchange_ret (s : State) : (armExchange s).ret = s.ret := by simp [armExchange]
@[simp] theorem armExchange_calls (s : State) : (armExchange s).calls = s.calls ++ [.subscribe] := by simp [armExchange]
@[simp] theorem armExchange_faultLog (s : State) : (armExchange s).faultLog = s.faultLog := by simp [armExchange]
@[simp] theorem armExchange_inbox (s : State) : (armExchange s).inbox = s.inbox := by simp [armExchange]
@[simp] theorem armExchange_cfg (s : State) : (armExchange s).cfg = s.cfg := by simp [armExchange]

@[simp] theorem enterComplete_crc (s : State) : (enterComplete s).crc = s.crc := rfl
@[simp] theorem enterComplete_bitcnt (s : State) : (enterComplete s).bitcnt = s.bitcnt := rfl
@[simp] theorem enterComplete_req (s : State) : (enterComplete s).req = s.req := rfl
@[simp] theorem enterComplete_tx (s : State) : (enterComplete s).tx = s.tx := rfl
@[simp] theorem enterComplete_txKind (s : State) : (enterComplete s).txKind = s.txKind := rfl
@[simp] theorem enterComplete_txFn (s : State) : (enterComplete s).txFn = s.txFn := rfl
@[simp] theorem enterComplete_txValid (s : State) : (enterComplete s).txValid = s.txValid := rfl
@[simp] theorem enterComplete_rx (s : State) : (enterComplete s).rx = s.rx := rfl
@[simp] theorem enterComplete_est (s : State) : (enterComplete s).est = s.est := rfl
@[simp] theorem enterComplete_latched (s : State) : (enterComplete s).latched = s.latched := rfl
@[simp] theorem enterComplete_done (s : State) : (enterComplete s).done = true := rfl
@[simp] theorem enterComplete_overshoot (s : State) : (enterComplete s).overshoot = s.overshoot := rfl
@[simp] theorem enterComplete_rsp (s : State) : (enterComplete s).rsp = s.rsp := rfl
@[simp] theorem enterComplete_rspValid (s : State) : (enterComplete s).rspValid = s.rspValid := rfl
@[simp] theorem enterComplete_tstate (s : State) : (enterComplete s).tstate = s.tstate := rfl
@[simp] theorem enterComplete_fault (s : State) : (enterComplete s).fault = s.fault := rfl
@[simp] theorem enterComplete_sess (s : State) : (enterComplete s).sess = .complete := rfl
@[simp] theorem enterComplete_wdArmed (s : State) : (enterComplete s).wdArmed = false := rfl
@[simp] theorem enterComplete_subscribed (s : State) : (enterComplete s).subscribed = false := rfl
@[simp] theorem enterComplete_writeTries (s : State) : (enterComplete s).writeTries = s.writeTries := rfl
@[simp] theorem enterComplete_call (s : State) : (enterComplete s).call = s.call := rfl
@[simp] theorem enterComplete_ret (s : State) : (enterComplete s).ret = s.ret := rfl
@[simp] theorem enterComplete_calls (s : State) : (enterComplete s).calls = s.calls ++ [.unsubscribe] := rfl
@[simp] theorem enterComplete_faultLog (s : State) : (enterComplete s).faultLog = s.faultLog := rfl
@[simp] theorem enterComplete_inbox (s : State) : (enterComplete s).inbox = s.inbox := rfl
@[simp] theorem enterComplete_cfg (s : State) : (enterComplete s).cfg = s.cfg := rfl

@[simp] theorem setEstimate_crc (e : Word × Bool) (s : State) : (setEstimate e s).crc = s.crc := rfl
@[simp] theorem setEstimate_bitcnt (e : Word × Bool) (s : State) : (setEstimate e s).bitcnt = s.bitcnt := rfl
@[simp] theorem setEstimate_req (e : Word × Bool) (s : State) : (setEstimate e s).req = s.req := rfl
@[simp] theorem setEstimate_tx (e : Word × Bool) (s : State) : (setEstimate e s).tx = s.tx := rfl
@[simp] theorem setEstimate_txKind (e : Word × Bool) (s : State) : (setEstimate e s).txKind = s.txKind := rfl
@[simp] theorem setEstimate_txFn (e : Word × Bool) (s : State) : (setEstimate e s).txFn = s.txFn := rfl
@[simp] theorem setEstimate_txValid (e : Word × Bool) (s : State) : (setEstimate e s).txValid = s.txValid := rfl
@[simp] theorem setEstimate_rx (e : Word × Bool) (s : State) : (setEstimate e s).rx = s.rx := rfl
@[simp] theorem setEstimate_est (e : Word × Bool) (s : State) : (setEstimate e s).est = e.1 := rfl
@[simp] theorem setEstimate_latched (e : Word × Bool) (s : State) : (setEstimate e s).latched = e.2 := rfl
@[simp] theorem setEstimate_done (e : Word × Bool) (s : State) : (setEstimate e s).done = s.done := rfl
@[simp] theorem setEstimate_overshoot (e : Word × Bool) (s : State) :
    (setEstimate e s).overshoot = s.overshoot := rfl
@[simp] theorem setEstimate_rsp (e : Word × Bool) (s : State) : (setEstimate e s).rsp = s.rsp := rfl
@[simp] theorem setEstimate_rspValid (e : Word × Bool) (s : State) : (setEstimate e s).rspValid = s.rspValid := rfl
@[simp] theorem setEstimate_tstate (e : Word × Bool) (s : State) : (setEstimate e s).tstate = s.tstate := rfl
@[simp] theorem setEstimate_fault (e : Word × Bool) (s : State) : (setEstimate e s).fault = s.fault := rfl
@[simp] theorem setEstimate_sess (e : Word × Bool) (s : State) : (setEstimate e s).sess = s.sess := rfl
@[simp] theorem setEstimate_wdArmed (e : Word × Bool) (s : State) : (setEstimate e s).wdArmed = s.wdArmed := rfl
@[simp] theorem setEstimate_subscribed (e : Word × Bool) (s : State) :
    (setEstimate e s).subscribed = s.subscribed := rfl
@[simp] theorem setEstimate_writeTries (e : Word × Bool) (s : State) :
    (setEstimate e s).writeTries = s.writeTries := rfl
@[simp] theorem setEstimate_call (e : Word × Bool) (s : State) : (setEstimate e s).call = s.call := rfl
@[simp] theorem setEstimate_ret (e : Word × Bool) (s : State) : (setEstimate e s).ret = s.ret := rfl
@[simp] theorem setEstimate_calls (e : Word × Bool) (s : State) : (setEstimate e s).calls = s.calls := rfl
@[simp] theorem setEstimate_faultLog (e : Word × Bool) (s : State) : (setEstimate e s).faultLog = s.faultLog := rfl
@[simp] theorem setEstimate_inbox (e : Word × Bool) (s : State) : (setEstimate e s).inbox = s.inbox := rfl
@[simp] theorem setEstimate_cfg (e : Word × Bool) (s : State) : (setEstimate e s).cfg = s.cfg := rfl

@[simp] theorem withInbox_crc (rest : List Event) (s : State) : (withInbox rest s).crc = s.crc := rfl
@[simp] theorem withInbox_bitcnt (rest : List Event) (s : State) : (withInbox rest s).bitcnt = s.bitcnt := rfl
@[simp] theorem withInbox_req (rest : List Event) (s : State) : (withInbox rest s).req = s.req := rfl
@[simp] theorem withInbox_tx (rest : List Event) (s : State) : (withInbox rest s).tx = s.tx := rfl
@[simp] theorem withInbox_txKind (rest : List Event) (s : State) : (withInbox rest s).txKind = s.txKind := rfl
@[simp] theorem withInbox_txFn (rest : List Event) (s : State) : (withInbox rest s).txFn = s.txFn := rfl
@[simp] theorem withInbox_txValid (rest : List Event) (s : State) : (withInbox rest s).txValid = s.txValid := rfl
@[simp] theorem withInbox_rx (rest : List Event) (s : State) : (withInbox rest s).rx = s.rx := rfl
@[simp] theorem withInbox_est (rest : List Event) (s : State) : (withInbox rest s).est = s.est := rfl
@[simp] theorem withInbox_latched (rest : List Event) (s : State) : (withInbox rest s).latched = s.latched := rfl
@[simp] theorem withInbox_done (rest : List Event) (s : State) : (withInbox rest s).done = s.done := rfl
@[simp] theorem withInbox_overshoot (rest : List Event) (s : State) : (withInbox rest s).overshoot = s.overshoot := rfl
@[simp] theorem withInbox_rsp (rest : List Event) (s : State) : (withInbox rest s).rsp = s.rsp := rfl
@[simp] theorem withInbox_rspValid (rest : List Event) (s : State) : (withInbox rest s).rspValid = s.rspValid := rfl
@[simp] theorem withInbox_tstate (rest : List Event) (s : State) : (withInbox rest s).tstate = s.tstate := rfl
@[simp] theorem withInbox_fault (rest : List Event) (s : State) : (withInbox rest s).fault = s.fault := rfl
@[simp] theorem withInbox_sess (rest : List Event) (s : State) : (withInbox rest s).sess = s.sess := rfl
@[simp] theorem withInbox_wdArmed (rest : List Event) (s : State) : (withInbox rest s).wdArmed = s.wdArmed := rfl
@[simp] theorem withInbox_subscribed (rest : List Event) (s : State) : (withInbox rest s).subscribed = s.subscribed := rfl
@[simp] theorem withInbox_writeTries (rest : List Event) (s : State) : (withInbox rest s).writeTries = s.writeTries := rfl
@[simp] theorem withInbox_call (rest : List Event) (s : State) : (withInbox rest s).call = s.call := rfl
@[simp] theorem withInbox_ret (rest : List Event) (s : State) : (withInbox rest s).ret = s.ret := rfl
@[simp] theorem withInbox_calls (rest : List Event) (s : State) : (withInbox rest s).calls = s.calls := rfl
@[simp] theorem withInbox_faultLog (rest : List Event) (s : State) : (withInbox rest s).faultLog = s.faultLog := rfl
@[simp] theorem withInbox_inbox (rest : List Event) (s : State) : (withInbox rest s).inbox = rest := rfl
@[simp] theorem withInbox_cfg (rest : List Event) (s : State) : (withInbox rest s).cfg = s.cfg := rfl

end Sys2Proof.Machine
end

