-- ==== Sys2Proof/Laws/Buffers.lean ====
section
/-! SUPPORT. Reading bytes of a buffer, and the outcomes of the shared operations. -/

namespace Sys2Proof.Machine

@[simp] theorem except_ok_bind {α β : Type} (a : α) (f : α → Except Fault β) : ((Except.ok a : Except Fault α) >>= f) = f a := rfl

theorem memByte_eq_ok {buf : List Byte} {i : Nat} {b : Byte} (h : buf[i]? = some b) : memByte buf i = .ok b := by
  simp [memByte, h]

theorem memByte_eq_ok_iff {buf : List Byte} {i : Nat} {b : Byte} : memByte buf i = .ok b ↔ buf[i]? = some b := by
  unfold memByte
  cases buf[i]? <;> simp

/-- Inside the buffer a read answers (R7). -/
theorem memByte_inside {buf : List Byte} {i : Nat} (h : i < buf.length) : memByte buf i = .ok buf[i] :=
  memByte_eq_ok (List.getElem?_eq_getElem h)

@[simp] theorem memByte_cons_zero (b : Byte) (w : List Byte) : memByte (b :: w) 0 = .ok b := rfl

@[simp] theorem memByte_cons_succ (b : Byte) (w : List Byte) (i : Nat) : memByte (b :: w) (i + 1) = memByte w i := by
  simp [memByte]

theorem memRead_inside {buf : List Byte} {i n : Nat} (h : i + n ≤ buf.length) :
    memRead buf i n = .ok ((buf.drop i).take n) := by
  simp [memRead, h]

/-- The two bytes after a prefix. -/
theorem memByte_append_at (p : List Byte) (c d : Byte) : memByte (p ++ [c, d]) p.length = .ok c :=
  memByte_eq_ok (by simp)

theorem memByte_append_next (p : List Byte) (c d : Byte) : memByte (p ++ [c, d]) (p.length + 1) = .ok d :=
  memByte_eq_ok (by simp)

/-- A buffer of at least two bytes is a prefix and two more. -/
theorem exists_two_last {w : List Byte} (h : 2 ≤ w.length) : ∃ p c d, w = p ++ [c, d] := by
  refine ⟨w.take (w.length - 2), w[w.length - 2], w[w.length - 1], ?_⟩
  apply List.ext_getElem
  · simp; omega
  · intro i h1 h2
    by_cases hi : i < w.length - 2
    · rw [List.getElem_append_left (by simp; omega)]; simp
    · rw [List.getElem_append_right (by simp; omega)]
      have : i = w.length - 2 ∨ i = w.length - 1 := by omega
      rcases this with rfl | rfl
      · simp
      · have hone : w.length - 1 - (w.length - 2) = 1 := by omega
        simp [hone]

/-- What a caller's operation answers (R160). -/
theorem callerOp_ready {s t : State} (h : inFlight s = false) : callerOp s (.ok t) = .next t := by
  simp [callerOp, h, outcomeOf]

theorem callerOp_in_flight {s : State} (r : Except Fault State) (h : inFlight s = true) :
    callerOp s r = .refused .exchangeInFlight := by
  simp [callerOp, h]

/-- A caller's operation that answers a next state ran its own rule with no exchange in flight. -/
theorem callerOp_next {s t : State} {r : Except Fault State} (h : callerOp s r = .next t) :
    inFlight s = false ∧ r = .ok t := by
  unfold callerOp at h
  cases hf : inFlight s <;> simp [hf] at h
  cases r <;> simp_all [outcomeOf]

@[simp] theorem inFlight_iff (s : State) : inFlight s = true ↔ s.sess = .sending ∨ s.sess = .awaitingResponse := by
  cases h : s.sess <;> simp [inFlight, h]

theorem inFlight_false_iff (s : State) : inFlight s = false ↔ s.sess ≠ .sending ∧ s.sess ≠ .awaitingResponse := by
  cases h : s.sess <;> simp [inFlight, h]

end Sys2Proof.Machine
end

