-- ==== Sys2Proof/Laws/Crc.lean ====
section
/-! SUPPORT. Small lemmas of the CRC function and of the two bytes of a word. -/

namespace Sys2Proof.Machine

@[simp] theorem crcFeed_nil (c : Word) : crcFeed c [] = c := rfl

@[simp] theorem crcFeed_cons (c : Word) (b : Byte) (rest : List Byte) :
    crcFeed c (b :: rest) = crcFeed (crcStep c b) rest := rfl

theorem crc16_eq_feed (bytes : List Byte) : crc16 bytes = crcFeed Config.crcSeed bytes := rfl

@[simp] theorem crcBytes_length (v : Word) : (crcBytes v).length = 2 := rfl

@[simp] theorem withCrc_length (p : List Byte) : (withCrc p).length = p.length + 2 := by
  simp [withCrc]

/-- The two bytes of a word give the word back (R51, R78(d)). -/
@[simp] theorem wordOfBytes_low_high (v : Word) : wordOfBytes (lowByte v) (highByte v) = v := by
  apply BitVec.eq_of_getLsbD_eq
  intro i hi
  simp only [wordOfBytes, lowByte, highByte, BitVec.getLsbD_append, BitVec.getLsbD_extractLsb']
  by_cases h : i < 8
  · simp [h]
  · have h2 : i - 8 < 8 := by omega
    have h3 : 8 + (i - 8) = i := by omega
    simp [h, h2, h3]

@[simp] theorem lowByte_wordOfBytes (lo hi : Byte) : lowByte (wordOfBytes lo hi) = lo := by
  apply BitVec.eq_of_getLsbD_eq
  intro i hi'
  simp only [wordOfBytes, lowByte, BitVec.getLsbD_append, BitVec.getLsbD_extractLsb']
  simp [hi']

@[simp] theorem highByte_wordOfBytes (lo hi : Byte) : highByte (wordOfBytes lo hi) = hi := by
  apply BitVec.eq_of_getLsbD_eq
  intro i hi'
  simp only [wordOfBytes, highByte, BitVec.getLsbD_append, BitVec.getLsbD_extractLsb']
  simp [hi']

/-- The 16-bit comparison of R125 compares the two bytes. -/
theorem eq_wordOfBytes_iff (v : Word) (lo hi : Byte) : v = wordOfBytes lo hi ↔ crcBytes v = [lo, hi] := by
  constructor
  · rintro rfl; simp [crcBytes]
  · intro h
    simp only [crcBytes, List.cons.injEq, and_true] at h
    rw [← h.1, ← h.2, wordOfBytes_low_high]

end Sys2Proof.Machine
end

