-- ==== Sys2Proof/Laws/Decoder.lean ====
section
/-! SUPPORT. What `DECODE` answers, once (42_decode.md R121 to R127). -/

namespace Sys2Proof.Machine

/-- The length a class requires of a buffer (R124). -/
theorem checkFrame_two (a c1 : Byte) (rest : List Byte) :
    checkFrame (a :: c1 :: rest) =
      match classify c1 with
      | none => .ok (.error (.invalidParameter .unmappedFunction))
      | some (.exception t) => .ok (exactLength (a :: c1 :: rest) 5 (.exception t))
      | some (.write t) => .ok (exactLength (a :: c1 :: rest) 8 (.write t))
      | some (.read t) =>
        match rest with
        | [] => .ok (.error (.malformedFrame .tooShort))
        | n :: _ => .ok (exactLength (a :: c1 :: rest) (3 + n.toNat + 2) (.read t)) := by
  unfold checkFrame
  have h2 : ¬ (a :: c1 :: rest).length < 2 := by simp
  rw [if_neg h2]
  simp only [memByte_cons_succ, memByte_cons_zero, except_ok_bind]
  cases classify c1 with
  | none => rfl
  | some cl =>
    cases cl with
    | exception t => rfl
    | write t => rfl
    | read t => cases rest <;> simp

/-- Fewer than two bytes cannot be classified. -/
theorem checkFrame_short {w : List Byte} (h : w.length < 2) :
    checkFrame w = .ok (.error (.malformedFrame .tooShort)) := by
  simp [checkFrame, h]

/-- The checks before the CRC always answer, and a class they pass has its exact length. -/
theorem checkFrame_cases (w : List Byte) :
    (∃ f, checkFrame w = .ok (.error f)) ∨
    (∃ a c1 rest c, w = a :: c1 :: rest ∧ classify c1 = some c ∧ checkFrame w = .ok (.ok c) ∧
      match c with
      | .exception _ => rest.length = 3
      | .write _ => rest.length = 6
      | .read _ => ∃ n body, rest = n :: body ∧ body.length = n.toNat + 2) := by
  match w with
  | [] => exact .inl ⟨_, checkFrame_short (by simp)⟩
  | [_] => exact .inl ⟨_, checkFrame_short (by simp)⟩
  | a :: c1 :: rest =>
    rw [checkFrame_two]
    cases hc : classify c1 with
    | none => exact .inl ⟨_, rfl⟩
    | some cl =>
      cases cl with
      | exception t =>
        simp only [exactLength, List.length_cons]
        split
        · exact .inl ⟨_, rfl⟩
        · split
          · exact .inl ⟨_, rfl⟩
          · exact .inr ⟨a, c1, rest, _, rfl, hc, rfl, by simp only; omega⟩
      | write t =>
        simp only [exactLength, List.length_cons]
        split
        · exact .inl ⟨_, rfl⟩
        · split
          · exact .inl ⟨_, rfl⟩
          · exact .inr ⟨a, c1, rest, _, rfl, hc, rfl, by simp only; omega⟩
      | read t =>
        cases rest with
        | nil => exact .inl ⟨_, rfl⟩
        | cons n body =>
          simp only [exactLength, List.length_cons]
          split
          · exact .inl ⟨_, rfl⟩
          · split
            · exact .inl ⟨_, rfl⟩
            · exact .inr ⟨a, c1, _, _, rfl, hc, rfl, n, body, rfl, by omega⟩

/-- The CRC step on a buffer given as payload and two trailing bytes. -/
theorem decodeExact_split (cl : RspClass) (p : List Byte) (c d : Byte) :
    decodeExact cl (p ++ [c, d]) =
      if crcBytes (crc16 p) = [c, d] then do
        let r ← fillRsp cl (p ++ [c, d])
        .ok (.frame r (crc16 p))
      else .ok (.crcMismatch (crc16 p)) := by
  have hlen : (p ++ [c, d]).length - 2 = p.length := by simp
  have hlast : (p ++ [c, d]).length - 1 = p.length + 1 := by simp
  unfold decodeExact
  rw [hlen, hlast, memRead_inside (by simp), memByte_append_at, memByte_append_next]
  simp only [except_ok_bind, List.drop_zero, List.take_left]
  by_cases h : crcBytes (crc16 p) = [c, d]
  · rw [if_pos h, if_pos (by rw [crcMatches, beq_iff_eq, eq_wordOfBytes_iff]; exact h)]
  · rw [if_neg h, if_neg (by rw [crcMatches, beq_iff_eq, eq_wordOfBytes_iff]; exact h)]

/-- Filling `rsp` from an exact-length exception response (R121). -/
theorem fillRsp_exception (t : FunctionType) (a fc e c d : Byte) :
    fillRsp (.exception t) [a, fc, e, c, d] =
      .ok { slave := a, fc := fc, fn := t, body := .exception e (exceptionEntry e)
            crcLo := c, crcHi := d, wire := [a, fc, e, c, d] } := rfl

/-- Filling `rsp` from an exact-length write response (R122). -/
theorem fillRsp_write (t : FunctionType) (a fc r0 r1 v0 v1 c d : Byte) :
    fillRsp (.write t) [a, fc, r0, r1, v0, v1, c, d] =
      .ok { slave := a, fc := fc, fn := t, body := .write (r0, r1) (v0, v1)
            crcLo := c, crcHi := d, wire := [a, fc, r0, r1, v0, v1, c, d] } := rfl

/-- Filling `rsp` from an exact-length read response (R123). -/
theorem fillRsp_read (t : FunctionType) (a fc n : Byte) (data : List Byte) (c d : Byte)
    (h : data.length = n.toNat) :
    fillRsp (.read t) (a :: fc :: n :: (data ++ [c, d])) =
      .ok { slave := a, fc := fc, fn := t, body := .read n data
            crcLo := c, crcHi := d, wire := a :: fc :: n :: (data ++ [c, d]) } := by
  have hw : a :: fc :: n :: (data ++ [c, d]) = (a :: fc :: n :: data) ++ [c, d] := by simp
  have h2 : (a :: fc :: n :: (data ++ [c, d])).length - 2 = (a :: fc :: n :: data).length := by simp
  have h1 : (a :: fc :: n :: (data ++ [c, d])).length - 1 = (a :: fc :: n :: data).length + 1 := by simp
  unfold fillRsp
  rw [h2, h1, hw, memByte_append_at, memByte_append_next]
  simp only [bodyOf, readBody, List.cons_append, memByte_cons_zero, memByte_cons_succ, except_ok_bind]
  rw [memRead_inside (by simp; omega)]
  simp [functionOfClass, ← h]

/-- `DECODE` always answers, with one of the three outcomes of R120. -/
theorem decodeResult_cases (w : List Byte) :
    (∃ f, checkFrame w = .ok (.error f) ∧ decodeResult w = .ok (.raised f)) ∨
    (∃ p c d, w = p ++ [c, d] ∧ crcBytes (crc16 p) ≠ [c, d] ∧
      decodeResult w = .ok (.crcMismatch (crc16 p))) ∨
    (∃ p r, w = withCrc p ∧ decodeResult w = .ok (.frame r (crc16 p)) ∧ r.wire = w ∧
      [r.crcLo, r.crcHi] = crcBytes (crc16 p)) := by
  rcases checkFrame_cases w with ⟨f, hf⟩ | ⟨a, c1, rest, cl, rfl, -, hok, hlen⟩
  · exact .inl ⟨f, hf, by simp [decodeResult, hf]⟩
  · have hfill : ∃ p c d r, a :: c1 :: rest = p ++ [c, d] ∧ fillRsp cl (a :: c1 :: rest) = .ok r ∧
        r.wire = a :: c1 :: rest ∧ r.crcLo = c ∧ r.crcHi = d := by
      cases cl with
      | exception t =>
        obtain ⟨e, c, d, rfl⟩ := List.length_eq_three.mp hlen
        exact ⟨[a, c1, e], c, d, _, rfl, fillRsp_exception t a c1 e c d, rfl, rfl, rfl⟩
      | write t =>
        match rest, hlen with
        | [r0, r1, v0, v1, c, d], _ =>
          exact ⟨[a, c1, r0, r1, v0, v1], c, d, _, rfl, fillRsp_write t a c1 r0 r1 v0 v1 c d, rfl, rfl, rfl⟩
      | read t =>
        obtain ⟨n, body, rfl, hbody⟩ := hlen
        obtain ⟨data, c, d, rfl⟩ := exists_two_last (w := body) (by omega)
        have hdata : data.length = n.toNat := by simpa using hbody
        exact ⟨a :: c1 :: n :: data, c, d, _, rfl, fillRsp_read t a c1 n data c d hdata, rfl, rfl, rfl⟩
    obtain ⟨p, c, d, r, hw, hr, hwire, rfl, rfl⟩ := hfill
    have hres : decodeResult (a :: c1 :: rest) =
        if crcBytes (crc16 p) = [r.crcLo, r.crcHi] then .ok (.frame r (crc16 p))
        else .ok (.crcMismatch (crc16 p)) := by
      unfold decodeResult
      rw [hok, except_ok_bind]
      change decodeExact cl (a :: c1 :: rest) = _
      rw [hw, decodeExact_split, ← hw, hr]
      rfl
    by_cases h : crcBytes (crc16 p) = [r.crcLo, r.crcHi]
    · refine .inr (.inr ⟨p, r, ?_, ?_, hwire, h.symm⟩)
      · rw [hw, withCrc, h]
      · rw [hres, if_pos h]
    · exact .inr (.inl ⟨p, _, _, hw, h, by rw [hres, if_neg h]⟩)

/-- `DECODE` answers on every buffer. -/
theorem decodeResult_ok (w : List Byte) : ∃ d, decodeResult w = .ok d := by
  rcases decodeResult_cases w with ⟨_, _, h⟩ | ⟨_, _, _, _, _, h⟩ | ⟨_, _, _, h, _⟩ <;> exact ⟨_, h⟩

/-- The length check raises only `MalformedFrame`. -/
theorem exactLength_fault {w : List Byte} {need : Nat} {c : RspClass} {f : CodecFault}
    (h : exactLength w need c = .error f) : f ≠ .none := by
  unfold exactLength at h
  split at h
  · cases h; simp
  · split at h
    · cases h; simp
    · cases h

/-- A frame that fails a check raises a fault that is one (R171). -/
theorem checkFrame_fault {w : List Byte} {f : CodecFault} (h : checkFrame w = .ok (.error f)) : f ≠ .none := by
  match w with
  | [] => rw [checkFrame_short (by simp)] at h; cases h; simp
  | [_] => rw [checkFrame_short (by simp)] at h; cases h; simp
  | a :: c1 :: rest =>
    rw [checkFrame_two] at h
    split at h
    · cases h; simp
    · exact exactLength_fault (Except.ok.inj h)
    · exact exactLength_fault (Except.ok.inj h)
    · split at h
      · cases h; simp
      · exact exactLength_fault (Except.ok.inj h)

/-- What `DECODE` raises is a fault (R171). -/
theorem decodeResult_fault {w : List Byte} {f : CodecFault} (h : decodeResult w = .ok (.raised f)) : f ≠ .none := by
  rcases decodeResult_cases w with ⟨g, hg, hd⟩ | ⟨_, _, _, _, _, hd⟩ | ⟨_, _, _, hd, _⟩ <;> rw [hd] at h <;> cases h
  exact checkFrame_fault hg

end Sys2Proof.Machine
end

