-- ==== Sys2Proof/Laws/Encoder.lean ====
section
/-! SUPPORT. What `ENCODE` answers, once (41_encode.md R111, R112). -/

namespace Sys2Proof.Machine

@[simp] theorem txBytes_requestFrame (t : FunctionType) (a r0 r1 t0 t1 : Byte) :
    txBytes (requestFrame t a r0 r1 t0 t1) = withCrc [a, requestCode t, r0, r1, t0, t1] := rfl

/-- Good operands give the frame. -/
theorem encodeWith_good (a : Byte) (t : FunctionType) (r0 r1 t0 t1 : Byte) (s : State) :
    encodeWith a (.fn t) [r0, r1] [t0, t1] s =
      .ok (writeTx t (requestFrame t a r0 r1 t0 t1) (loadRequest a (.fn t) [r0, r1] [t0, t1] s)) := rfl

/-- An unmapped function is the first fault looked for (R112). -/
theorem encodeWith_unmapped {fn : FnSel} (h : mappedFunction fn = none) (a : Byte) (addr tail : List Byte)
    (s : State) :
    encodeWith a fn addr tail s =
      .ok (raiseCodec .enc (.invalidParameter .unmappedFunction) (loadRequest a fn addr tail s)) := by
  simp [encodeWith, encodeUnit, h]

/-- A mapped function with an operand that is not two bytes long. -/
theorem encodeWith_badWidth (a : Byte) (t : FunctionType) {addr tail : List Byte} (s : State)
    (h : addr.length ≠ 2 ∨ tail.length ≠ 2) :
    encodeWith a (.fn t) addr tail s =
      .ok (raiseCodec .enc (.invalidParameter .badWidth) (loadRequest a (.fn t) addr tail s)) := by
  by_cases h1 : addr.length = 2
  · have h2 : tail.length ≠ 2 := h.resolve_left (by simpa using h1)
    simp [encodeWith, encodeUnit, mappedFunction, h1, h2]
  · simp [encodeWith, encodeUnit, mappedFunction, h1]

/-- `ENCODE` always answers, and its answer is the frame or one of the two faults. -/
theorem encodeWith_cases (a : Byte) (fn : FnSel) (addr tail : List Byte) (s : State) :
    (∃ t r0 r1 t0 t1, fn = .fn t ∧ addr = [r0, r1] ∧ tail = [t0, t1] ∧
      encodeWith a fn addr tail s =
        .ok (writeTx t (requestFrame t a r0 r1 t0 t1) (loadRequest a fn addr tail s))) ∨
    (∃ c, encodeWith a fn addr tail s =
      .ok (raiseCodec .enc (.invalidParameter c) (loadRequest a fn addr tail s))) := by
  cases fn with
  | unmapped6 => exact .inr ⟨_, encodeWith_unmapped rfl a addr tail s⟩
  | unmapped7 => exact .inr ⟨_, encodeWith_unmapped rfl a addr tail s⟩
  | fn t =>
    by_cases h : addr.length = 2 ∧ tail.length = 2
    · obtain ⟨r0, r1, rfl⟩ := List.length_eq_two.mp h.1
      obtain ⟨t0, t1, rfl⟩ := List.length_eq_two.mp h.2
      exact .inl ⟨t, r0, r1, t0, t1, rfl, rfl, rfl, encodeWith_good a t r0 r1 t0 t1 s⟩
    · exact .inr ⟨_, encodeWith_badWidth a t s (by tauto)⟩

end Sys2Proof.Machine
end

