-- ==== Sys2Proof/Laws/Estimator.lean ====
section
/-! SUPPORT. What `EST.UPDATE` computes, once (43_estimator.md R141). -/

namespace Sys2Proof.Machine

/-- Once latched the estimate stands. -/
@[simp] theorem refineEstimate_latched (k : RequestKind) (rx : List Byte) (est : Word) :
    refineEstimate k rx est true = .ok (est, true) := by
  simp [refineEstimate]

/-- Fewer than three bytes decide nothing. -/
theorem refineEstimate_short (k : RequestKind) {rx : List Byte} (est : Word) (l : Bool) (h : rx.length < 3) :
    refineEstimate k rx est l = .ok (est, l) := by
  simp [refineEstimate, Nat.not_le.mpr h]

/-- Three or more bytes, not latched: the three branches of R141. -/
theorem refineEstimate_open (k : RequestKind) (b0 b1 b2 : Byte) (rest : List Byte) (est : Word) :
    refineEstimate k (b0 :: b1 :: b2 :: rest) est false =
      .ok (if 16#8 < b1 then (5#16, true)
        else match k with
          | .requestRead => (readEstimate b2, true)
          | .requestWrite => (est, false)) := by
  cases k <;> by_cases h : 16#8 < b1 <;> simp [refineEstimate, exceptionEstimate, h]

/-- The estimator always answers. -/
theorem refineEstimate_ok (k : RequestKind) (rx : List Byte) (est : Word) (l : Bool) :
    ∃ e, refineEstimate k rx est l = .ok e := by
  cases l with
  | true => exact ⟨_, refineEstimate_latched k rx est⟩
  | false =>
    match rx with
    | [] => exact ⟨_, refineEstimate_short k est false (by simp)⟩
    | [_] => exact ⟨_, refineEstimate_short k est false (by simp)⟩
    | [_, _] => exact ⟨_, refineEstimate_short k est false (by simp)⟩
    | b0 :: b1 :: b2 :: rest => exact ⟨_, refineEstimate_open k b0 b1 b2 rest est⟩

/-- `3 + n + 2` does not overflow (R145). -/
@[simp] theorem readEstimate_toNat (n : Byte) : (readEstimate n).toNat = 3 + n.toNat + 2 := by
  have : n.toNat < 256 := n.isLt
  simp [readEstimate, BitVec.toNat_add, BitVec.toNat_setWidth]
  omega

end Sys2Proof.Machine
end

