-- ==== Sys2Proof/Laws/Invariant.lean ====
section
/-! SUPPORT. The invariant does not look at the moves to come, at what was returned, or at the transport calls made. -/

namespace Sys2Proof.Machine

theorem stateInv_withInbox {s : State} (h : StateInv s) (rest : List Event) : StateInv (withInbox rest s) :=
  ⟨h.1, h.2, h.3, h.4, h.5, h.6, h.7, h.8, h.9, h.10, h.11, h.12, h.13, h.14, h.15, h.16⟩

theorem stateInv_returning {s : State} (h : StateInv s) (r : Ret) : StateInv (returning r s) :=
  ⟨h.1, h.2, h.3, h.4, h.5, h.6, h.7, h.8, h.9, h.10, h.11, h.12, h.13, h.14, h.15, h.16⟩

theorem stateInv_transportCall {s : State} (h : StateInv s) (c : TransportCall) : StateInv (transportCall c s) :=
  ⟨h.1, h.2, h.3, h.4, h.5, h.6, h.7, h.8, h.9, h.10, h.11, h.12, h.13, h.14, h.15, h.16⟩

end Sys2Proof.Machine
end

