-- ==== Sys2Proof/Laws/PerInstr.lean ====
section
/-! SUPPORT. One statement per instruction: the encoding of each constructor carries the selector that
spec/opcode_table.json gives its row. -/

namespace Sys2Proof.Laws.SelectorRow

open Sys2Proof

/-- The selector of a raw invocation: the select code of a command (R82), wire byte 1 of a frame (R70). -/
def selectorOf (r : Raw) : Option Nat :=
  match r with
  | .command op _ => some op.toNat
  | .requestFrame w => w[1]?.map BitVec.toNat
  | .responseFrame w => w[1]?.map BitVec.toNat

/-- The `match` value of the instruction's row in spec/opcode_table.json. -/
def tableMatch (i : Instr) : Nat :=
  match i with
  | .reqReadCoil _ _ _ _ _ => 0x01
  | .reqReadDigitalInput _ _ _ _ _ => 0x02
  | .reqReadHoldingRegister _ _ _ _ _ => 0x03
  | .reqReadInputRegister _ _ _ _ _ => 0x04
  | .reqWriteCoil _ _ _ _ _ => 0x05
  | .reqWriteHoldingRegister _ _ _ _ _ => 0x06
  | .rspReadCoil _ _ _ _ _ => 0x01
  | .rspReadDigitalInput _ _ _ _ _ => 0x02
  | .rspReadHoldingRegister _ _ _ _ _ => 0x03
  | .rspReadInputRegister _ _ _ _ _ => 0x04
  | .rspWriteCoil _ _ _ _ _ _ _ => 0x05
  | .rspWriteHoldingRegister _ _ _ _ _ _ _ => 0x06
  | .rspExcReadCoil _ _ _ _ => 0x81
  | .rspExcReadDigitalInput _ _ _ _ => 0x82
  | .rspExcReadHoldingRegister _ _ _ _ => 0x83
  | .rspExcReadInputRegister _ _ _ _ => 0x84
  | .rspExcWriteCoil _ _ _ _ => 0x85
  | .rspExcWriteHoldingRegister _ _ _ _ => 0x86
  | .crcInit => 0x0
  | .crcByte _ => 0x1
  | .crcOut => 0x2
  | .crc16 _ => 0x3
  | .encode _ _ _ _ => 0x4
  | .decode _ => 0x5
  | .estArm => 0x6
  | .estUpdate => 0x7
  | .execute _ _ _ _ => 0x8

/-- The encoding carries its row's selector. -/
def Statement (i : Instr) : Prop := selectorOf (encode i) = some (tableMatch i)

theorem reqReadCoil (a : Byte) (r0 : Byte) (r1 : Byte) (t0 : Byte) (t1 : Byte) :
    Statement (.reqReadCoil a r0 r1 t0 t1) := rfl

theorem reqReadDigitalInput (a : Byte) (r0 : Byte) (r1 : Byte) (t0 : Byte) (t1 : Byte) :
    Statement (.reqReadDigitalInput a r0 r1 t0 t1) := rfl

theorem reqReadHoldingRegister (a : Byte) (r0 : Byte) (r1 : Byte) (t0 : Byte) (t1 : Byte) :
    Statement (.reqReadHoldingRegister a r0 r1 t0 t1) := rfl

theorem reqReadInputRegister (a : Byte) (r0 : Byte) (r1 : Byte) (t0 : Byte) (t1 : Byte) :
    Statement (.reqReadInputRegister a r0 r1 t0 t1) := rfl

theorem reqWriteCoil (a : Byte) (r0 : Byte) (r1 : Byte) (t0 : Byte) (t1 : Byte) :
    Statement (.reqWriteCoil a r0 r1 t0 t1) := rfl

theorem reqWriteHoldingRegister (a : Byte) (r0 : Byte) (r1 : Byte) (t0 : Byte) (t1 : Byte) :
    Statement (.reqWriteHoldingRegister a r0 r1 t0 t1) := rfl

theorem rspReadCoil (a : Byte) (n : Byte) (data : List Byte) (c : Byte) (d : Byte) :
    Statement (.rspReadCoil a n data c d) := rfl

theorem rspReadDigitalInput (a : Byte) (n : Byte) (data : List Byte) (c : Byte) (d : Byte) :
    Statement (.rspReadDigitalInput a n data c d) := rfl

theorem rspReadHoldingRegister (a : Byte) (n : Byte) (data : List Byte) (c : Byte) (d : Byte) :
    Statement (.rspReadHoldingRegister a n data c d) := rfl

theorem rspReadInputRegister (a : Byte) (n : Byte) (data : List Byte) (c : Byte) (d : Byte) :
    Statement (.rspReadInputRegister a n data c d) := rfl

theorem rspWriteCoil (a : Byte) (r0 : Byte) (r1 : Byte) (v0 : Byte) (v1 : Byte) (c : Byte) (d : Byte) :
    Statement (.rspWriteCoil a r0 r1 v0 v1 c d) := rfl

theorem rspWriteHoldingRegister (a : Byte) (r0 : Byte) (r1 : Byte) (v0 : Byte) (v1 : Byte) (c : Byte) (d : Byte) :
    Statement (.rspWriteHoldingRegister a r0 r1 v0 v1 c d) := rfl

theorem rspExcReadCoil (a : Byte) (e : Byte) (c : Byte) (d : Byte) : Statement (.rspExcReadCoil a e c d) := rfl

theorem rspExcReadDigitalInput (a : Byte) (e : Byte) (c : Byte) (d : Byte) :
    Statement (.rspExcReadDigitalInput a e c d) := rfl

theorem rspExcReadHoldingRegister (a : Byte) (e : Byte) (c : Byte) (d : Byte) :
    Statement (.rspExcReadHoldingRegister a e c d) := rfl

theorem rspExcReadInputRegister (a : Byte) (e : Byte) (c : Byte) (d : Byte) :
    Statement (.rspExcReadInputRegister a e c d) := rfl

theorem rspExcWriteCoil (a : Byte) (e : Byte) (c : Byte) (d : Byte) : Statement (.rspExcWriteCoil a e c d) := rfl

theorem rspExcWriteHoldingRegister (a : Byte) (e : Byte) (c : Byte) (d : Byte) :
    Statement (.rspExcWriteHoldingRegister a e c d) := rfl

theorem crcInit : Statement .crcInit := rfl

theorem crcByte (b : Byte) : Statement (.crcByte b) := rfl

theorem crcOut : Statement .crcOut := rfl

theorem crc16 (bytes : List Byte) : Statement (.crc16 bytes) := rfl

theorem encode (slave : Byte) (fn : FnSel) (addr : List Byte) (tail : List Byte) :
    Statement (.encode slave fn addr tail) := rfl

theorem decode (w : List Byte) : Statement (.decode w) := rfl

theorem estArm : Statement .estArm := rfl

theorem estUpdate : Statement .estUpdate := rfl

theorem execute (slave : Byte) (fn : FnSel) (addr : List Byte) (tail : List Byte) :
    Statement (.execute slave fn addr tail) := rfl

end Sys2Proof.Laws.SelectorRow
end

