-- ==== Sys2Proof/Laws/Session.lean ====
section
/-! SUPPORT. What the steps of an exchange answer, once (44_session.md R151 to R156). -/

namespace Sys2Proof.Machine

/-- `EST.UPDATE` writes the refined estimate and nothing else. -/
theorem updateEstimate_eq (s : State) :
    ∃ e, refineEstimate s.txKind s.rx s.est s.latched = .ok e ∧
      updateEstimate s = .ok (setEstimate e s) := by
  obtain ⟨e, he⟩ := refineEstimate_ok s.txKind s.rx s.est s.latched
  exact ⟨e, he, by simp [updateEstimate, he]⟩

/-- `DECODE` as a unit writes what its result says. -/
theorem decodeUnit_eq (w : List Byte) (s : State) :
    ∃ d, decodeResult w = .ok d ∧ decodeUnit w s = .ok (applyDecode d s) := by
  obtain ⟨d, hd⟩ := decodeResult_ok w
  exact ⟨d, hd, by simp [decodeUnit, hd]⟩

/-- Completion decodes `rx` (R156). -/
theorem completeExchange_eq (s : State) :
    ∃ d, decodeResult s.rx = .ok d ∧
      completeExchange s = .ok (completionOf d (applyDecode d (enterComplete s))) := by
  obtain ⟨d, hd⟩ := decodeResult_ok s.rx
  exact ⟨d, hd, by simp [completeExchange, hd]⟩

/-- The three ends of a fragment step (R155): overshoot, completion, or waiting on. -/
theorem settleFragment_cases (s : State) :
    (s.est.toNat < rxLen s ∧ settleFragment s = .ok (overshootExchange s)) ∨
    (rxLen s = s.est.toNat ∧ settleFragment s = completeExchange s) ∨
    (rxLen s < s.est.toNat ∧ settleFragment s = .ok s) := by
  unfold settleFragment isOvershoot isComplete
  rcases Nat.lt_trichotomy (rxLen s) s.est.toNat with h | h | h
  · exact .inr (.inr ⟨h, by simp [h.ne, Nat.not_lt.mpr h.le]⟩)
  · exact .inr (.inl ⟨h, by simp [h]⟩)
  · exact .inl ⟨h, by simp [h]⟩

theorem settleFragment_ok (s : State) : ∃ t, settleFragment s = .ok t := by
  rcases settleFragment_cases s with ⟨_, h⟩ | ⟨_, h⟩ | ⟨_, h⟩
  · exact ⟨_, h⟩
  · obtain ⟨d, _, hc⟩ := completeExchange_eq s
    exact ⟨_, h.trans hc⟩
  · exact ⟨_, h⟩

/-- A fragment step is the update of the estimate on the longer buffer, then the comparisons. -/
theorem fragmentStep_eq (f : List Byte) (s : State) :
    ∃ e, refineEstimate s.txKind (s.rx ++ f) s.est s.latched = .ok e ∧
      fragmentStep f s =
        settleFragment (setEstimate e (restartWatchdog (rxAppend f s))) := by
  obtain ⟨e, he, hu⟩ := updateEstimate_eq (restartWatchdog (rxAppend f s))
  exact ⟨e, he, by simp [fragmentStep, hu]⟩

theorem onFragment_ok (f : List Byte) (s : State) : ∃ t, onFragment f s = .ok t := by
  unfold onFragment
  split
  · obtain ⟨e, -, h⟩ := fragmentStep_eq f s
    rw [h]
    exact settleFragment_ok _
  · exact ⟨s, rfl⟩

/-- The start of an exchange: the request is encoded and the session sends, or a codec fault is returned
(R151). -/
theorem startExchange_cases (a : Byte) (fn : FnSel) (addr tail : List Byte) (s : State) :
    (∃ t r0 r1 t0 t1, fn = .fn t ∧ addr = [r0, r1] ∧ tail = [t0, t1] ∧
      startExchange a fn addr tail s =
        .ok { writeTx t (requestFrame t a r0 r1 t0 t1) (loadRequest a fn addr tail (freshIdle s)) with
              sess := .sending
              call := firstCall s.cfg
              ret := .nothing }) ∨
    (∃ c, startExchange a fn addr tail s =
      .ok { raiseCodec .enc (.invalidParameter c) (loadRequest a fn addr tail (freshIdle s)) with
            ret := .exchange (.codecFault (.invalidParameter c) []) }) := by
  rcases encodeWith_cases a fn addr tail (freshIdle s) with ⟨t, r0, r1, t0, t1, h1, h2, h3, h⟩ | ⟨c, h⟩
  · exact .inl ⟨t, r0, r1, t0, t1, h1, h2, h3, by simp [startExchange, h, afterEncode]⟩
  · exact .inr ⟨c, by simp [startExchange, h, afterEncode]⟩

end Sys2Proof.Machine
end

