-- ==== Sys2Proof/Tests/Slice0.lean ====
section
/-! SUPPORT. Tests: each encoding written out from the spec, an ill-formed term for each check of WellFormed, one
step on a small state per instruction and per move (expected results from spec/41_encode.md R115,
spec/42_decode.md R130 and spec/95_test_vectors.md), and for each obligation with hypotheses a witness. -/

namespace Sys2Proof.Tests

open Sys2Proof.Machine

/- A CRC of eight bytes is 64 shift steps deep. -/
set_option maxRecDepth 6000

/-! Decoding: every constructor from its spec encoding. -/

/-! Requests: the table of R115. -/

theorem test_decode_reqReadCoil :
    decode (.requestFrame [0x01, 0x01, 0x00, 0x13, 0x00, 0x25, 0x0C, 0x14]) = .ok (.reqReadCoil 0x01 0x00 0x13 0x00 0x25) := by decide

theorem test_decode_reqReadDigitalInput :
    decode (.requestFrame [0x01, 0x02, 0x00, 0xC4, 0x00, 0x16, 0xB8, 0x39]) = .ok (.reqReadDigitalInput 0x01 0x00 0xC4 0x00 0x16) := by decide

theorem test_decode_reqReadHoldingRegister :
    decode (.requestFrame [0x01, 0x03, 0x00, 0x6B, 0x00, 0x03, 0x74, 0x17]) = .ok (.reqReadHoldingRegister 0x01 0x00 0x6B 0x00 0x03) := by decide

theorem test_decode_reqReadInputRegister :
    decode (.requestFrame [0x01, 0x04, 0x00, 0x08, 0x00, 0x01, 0xB0, 0x08]) = .ok (.reqReadInputRegister 0x01 0x00 0x08 0x00 0x01) := by decide

theorem test_decode_reqWriteCoil :
    decode (.requestFrame [0x01, 0x05, 0x00, 0xAC, 0xFF, 0x00, 0x4C, 0x1B]) = .ok (.reqWriteCoil 0x01 0x00 0xAC 0xFF 0x00) := by decide

theorem test_decode_reqWriteHoldingRegister :
    decode (.requestFrame [0x01, 0x06, 0x00, 0x01, 0x00, 0x03, 0x98, 0x0B]) = .ok (.reqWriteHoldingRegister 0x01 0x00 0x01 0x00 0x03) := by decide

/-! Responses: the frames of 95_test_vectors.md 2.3. -/

theorem test_decode_rspReadCoil :
    decode (.responseFrame [0x01, 0x01, 0x05, 0xCD, 0x6B, 0xB2, 0x0E, 0x1B, 0x44, 0xEA]) =
      .ok (.rspReadCoil 0x01 0x05 [0xCD, 0x6B, 0xB2, 0x0E, 0x1B] 0x44 0xEA) := by decide

theorem test_decode_rspReadDigitalInput :
    decode (.responseFrame [0x01, 0x02, 0x01, 0xAC, 0xA1, 0xF5]) =
      .ok (.rspReadDigitalInput 0x01 0x01 [0xAC] 0xA1 0xF5) := by decide

theorem test_decode_rspReadHoldingRegister :
    decode (.responseFrame [0x01, 0x03, 0x00, 0x20, 0xF0]) =
      .ok (.rspReadHoldingRegister 0x01 0x00 [] 0x20 0xF0) := by decide

theorem test_decode_rspReadInputRegister :
    decode (.responseFrame [0x01, 0x04, 0x02, 0x00, 0x0A, 0x39, 0x37]) =
      .ok (.rspReadInputRegister 0x01 0x02 [0x00, 0x0A] 0x39 0x37) := by decide

theorem test_decode_rspWriteCoil :
    decode (.responseFrame [0x01, 0x05, 0x00, 0xAC, 0xFF, 0x00, 0x4C, 0x1B]) =
      .ok (.rspWriteCoil 0x01 0x00 0xAC 0xFF 0x00 0x4C 0x1B) := by decide

theorem test_decode_rspWriteHoldingRegister :
    decode (.responseFrame [0xFF, 0x06, 0xFF, 0xFF, 0xFF, 0xFF, 0x9D, 0x80]) =
      .ok (.rspWriteHoldingRegister 0xFF 0xFF 0xFF 0xFF 0xFF 0x9D 0x80) := by decide

theorem test_decode_rspExcReadCoil :
    decode (.responseFrame [0x01, 0x81, 0x01, 0x81, 0x90]) = .ok (.rspExcReadCoil 0x01 0x01 0x81 0x90) := by decide

theorem test_decode_rspExcReadDigitalInput :
    decode (.responseFrame [0x01, 0x82, 0x0B, 0x01, 0x67]) = .ok (.rspExcReadDigitalInput 0x01 0x0B 0x01 0x67) := by decide

theorem test_decode_rspExcReadHoldingRegister :
    decode (.responseFrame [0x01, 0x83, 0x02, 0xC0, 0xF1]) = .ok (.rspExcReadHoldingRegister 0x01 0x02 0xC0 0xF1) := by decide

theorem test_decode_rspExcReadInputRegister :
    decode (.responseFrame [0x01, 0x84, 0x0A, 0xC3, 0x07]) = .ok (.rspExcReadInputRegister 0x01 0x0A 0xC3 0x07) := by decide

theorem test_decode_rspExcWriteCoil :
    decode (.responseFrame [0x01, 0x85, 0x03, 0x02, 0x91]) = .ok (.rspExcWriteCoil 0x01 0x03 0x02 0x91) := by decide

theorem test_decode_rspExcWriteHoldingRegister :
    decode (.responseFrame [0x01, 0x86, 0x02, 0xC3, 0xA1]) = .ok (.rspExcWriteHoldingRegister 0x01 0x02 0xC3 0xA1) := by decide

/-! Operations: the select codes of R82. -/

/-- Operand lines with a different value on each. -/
def lines : OperandLines :=
  { byte := 0xAE, bytes := [0x01, 0x03], slave := 0x11, fn := 5#3, addr := [0x00, 0x6B], tail := [0x00, 0x03] }

theorem test_decode_crcInit :
    decode (.command 0x0#4 lines) = .ok (.crcInit) := by decide

theorem test_decode_crcByte :
    decode (.command 0x1#4 lines) = .ok (.crcByte 0xAE) := by decide

theorem test_decode_crcOut :
    decode (.command 0x2#4 lines) = .ok (.crcOut) := by decide

theorem test_decode_crc16 :
    decode (.command 0x3#4 lines) = .ok (.crc16 [0x01, 0x03]) := by decide

theorem test_decode_encode :
    decode (.command 0x4#4 lines) = .ok (.encode 0x11 (.fn .writeHoldingRegister) [0x00, 0x6B] [0x00, 0x03]) := by decide

theorem test_decode_decode :
    decode (.command 0x5#4 lines) = .ok (.decode [0x01, 0x03]) := by decide

theorem test_decode_estArm :
    decode (.command 0x6#4 lines) = .ok (.estArm) := by decide

theorem test_decode_estUpdate :
    decode (.command 0x7#4 lines) = .ok (.estUpdate) := by decide

theorem test_decode_execute :
    decode (.command 0x8#4 lines) = .ok (.execute 0x11 (.fn .writeHoldingRegister) [0x00, 0x6B] [0x00, 0x03]) := by decide

theorem test_decode_reserved :
    decode (.command 0x9#4 lines) = .error (.reservedOperation 0x9#4) ∧
      decode (.command 0xF#4 lines) = .error (.reservedOperation 0xF#4) := by decide

/-- The functionType numbers of R84, the two unmapped ones included. -/
theorem test_function_numbers :
    [functionOfNumber 0#3, functionOfNumber 1#3, functionOfNumber 2#3, functionOfNumber 3#3, functionOfNumber 4#3,
      functionOfNumber 5#3, functionOfNumber 6#3, functionOfNumber 7#3] =
    [.fn .readCoil, .fn .writeCoil, .fn .readDigitalInput, .fn .readInputRegister, .fn .readHoldingRegister,
      .fn .writeHoldingRegister, .unmapped6, .unmapped7] := by decide

/-- Frames that are no row: byte 1 of R80(a), and the lengths of R70. -/
theorem test_decode_refuses_frames :
    decode (.responseFrame [0x01, 0x87, 0x02, 0xC2, 0x31]) = .error .unmappedFunction ∧
    decode (.responseFrame [0x01, 0x10, 0x00, 0x01, 0x00, 0x02, 0x10, 0x08]) = .error .unmappedFunction ∧
    decode (.responseFrame [0x01, 0x83, 0x02, 0xC0]) = .error .frameTooShort ∧
    decode (.responseFrame [0x01, 0x03, 0x02, 0x12, 0x34, 0xB5, 0x33, 0x00]) = .error .frameTooLong ∧
    decode (.requestFrame [0x01, 0x03, 0x00, 0x6B, 0x00, 0x03, 0x76, 0x87]) = .error .requestCrc := by
  decide

/-- Words of the opcode table: `0x6` is a select code, `0x83` byte 1 of a response. -/
theorem test_table_words :
    decodeTableWord 8 0x06 = some .estArm ∧
      decodeTableWord 16 0x0283 = some (.rspExcReadHoldingRegister 0x00 0x02 0x00 0x00) := by decide

/-! WellFormed: an ill-formed term for each of its four checks (R72). -/

theorem test_ill_formed_rspReadCoil : wellFormed (.rspReadCoil 0x01 0x02 [0xFF] 0x11 0xC8) = false := by decide

theorem test_ill_formed_rspReadDigitalInput :
    wellFormed (.rspReadDigitalInput 0x01 0x00 [0xAC] 0xA1 0xF5) = false := by decide

theorem test_ill_formed_rspReadHoldingRegister :
    wellFormed (.rspReadHoldingRegister 0x01 0x01 [] 0x20 0xF0) = false := by decide

theorem test_ill_formed_rspReadInputRegister :
    wellFormed (.rspReadInputRegister 0x01 0xFF [0x00, 0x0A] 0x39 0x37) = false := by decide

/-! One step of each instruction. -/

/-- The state a run answers with, the state it started from where it stops. -/
def after (s : State) (i : Instr) : State :=
  match exec i s with
  | .next t => t
  | .fault _ => s
  | .refused _ => s

/-- `wireBytes`, kind and function of the request a row or `ENCODE` leaves. -/
def request (s : State) : List Byte × RequestKind × FunctionType × Bool := (txBytes s.tx, s.txKind, s.txFn, s.txValid)

theorem test_reqReadCoil :
    request (after .reset (.reqReadCoil 0x01 0x00 0x13 0x00 0x25)) =
      ([0x01, 0x01, 0x00, 0x13, 0x00, 0x25, 0x0C, 0x14], .requestRead, .readCoil, true) := by decide

theorem test_reqReadDigitalInput :
    request (after .reset (.reqReadDigitalInput 0x01 0x00 0xC4 0x00 0x16)) =
      ([0x01, 0x02, 0x00, 0xC4, 0x00, 0x16, 0xB8, 0x39], .requestRead, .readDigitalInput, true) := by decide

theorem test_reqReadHoldingRegister :
    request (after .reset (.reqReadHoldingRegister 0x01 0x00 0x6B 0x00 0x03)) =
      ([0x01, 0x03, 0x00, 0x6B, 0x00, 0x03, 0x74, 0x17], .requestRead, .readHoldingRegister, true) := by decide

theorem test_reqReadInputRegister :
    request (after .reset (.reqReadInputRegister 0x01 0x00 0x08 0x00 0x01)) =
      ([0x01, 0x04, 0x00, 0x08, 0x00, 0x01, 0xB0, 0x08], .requestRead, .readInputRegister, true) := by decide

theorem test_reqWriteCoil :
    request (after .reset (.reqWriteCoil 0x01 0x00 0xAC 0xFF 0x00)) =
      ([0x01, 0x05, 0x00, 0xAC, 0xFF, 0x00, 0x4C, 0x1B], .requestWrite, .writeCoil, true) := by decide

theorem test_reqWriteHoldingRegister :
    request (after .reset (.reqWriteHoldingRegister 0x01 0x00 0x01 0x00 0x03)) =
      ([0x01, 0x06, 0x00, 0x01, 0x00, 0x03, 0x98, 0x0B], .requestWrite, .writeHoldingRegister, true) := by decide

/-- What an exposed response shows. -/
def shown (s : State) : Option (FunctionType × RspBody × List Byte) := s.rsp.map fun r => (r.fn, r.body, r.wire)

theorem test_rspReadCoil :
    shown (after .reset (.rspReadCoil 0x01 0x05 [0xCD, 0x6B, 0xB2, 0x0E, 0x1B] 0x44 0xEA)) =
      some (.readCoil, .read 0x05 [0xCD, 0x6B, 0xB2, 0x0E, 0x1B], [0x01, 0x01, 0x05, 0xCD, 0x6B, 0xB2, 0x0E, 0x1B, 0x44, 0xEA]) := by decide

theorem test_rspReadDigitalInput :
    shown (after .reset (.rspReadDigitalInput 0x01 0x01 [0xAC] 0xA1 0xF5)) =
      some (.readDigitalInput, .read 0x01 [0xAC], [0x01, 0x02, 0x01, 0xAC, 0xA1, 0xF5]) := by decide

theorem test_rspReadHoldingRegister :
    shown (after .reset (.rspReadHoldingRegister 0x01 0x00 [] 0x20 0xF0)) =
      some (.readHoldingRegister, .read 0x00 [], [0x01, 0x03, 0x00, 0x20, 0xF0]) := by decide

theorem test_rspReadInputRegister :
    shown (after .reset (.rspReadInputRegister 0x01 0x02 [0x00, 0x0A] 0x39 0x37)) =
      some (.readInputRegister, .read 0x02 [0x00, 0x0A], [0x01, 0x04, 0x02, 0x00, 0x0A, 0x39, 0x37]) := by decide

theorem test_rspWriteCoil :
    shown (after .reset (.rspWriteCoil 0x01 0x00 0xAC 0xFF 0x00 0x4C 0x1B)) =
      some (.writeCoil, .write (0x00, 0xAC) (0xFF, 0x00), [0x01, 0x05, 0x00, 0xAC, 0xFF, 0x00, 0x4C, 0x1B]) := by decide

theorem test_rspWriteHoldingRegister :
    shown (after .reset (.rspWriteHoldingRegister 0xFF 0xFF 0xFF 0xFF 0xFF 0x9D 0x80)) =
      some (.writeHoldingRegister, .write (0xFF, 0xFF) (0xFF, 0xFF), [0xFF, 0x06, 0xFF, 0xFF, 0xFF, 0xFF, 0x9D, 0x80]) := by decide

theorem test_rspExcReadCoil :
    shown (after .reset (.rspExcReadCoil 0x01 0x01 0x81 0x90)) =
      some (.readCoil, .exception 0x01 (some .code1), [0x01, 0x81, 0x01, 0x81, 0x90]) := by decide

theorem test_rspExcReadDigitalInput :
    shown (after .reset (.rspExcReadDigitalInput 0x01 0x0B 0x01 0x67)) =
      some (.readDigitalInput, .exception 0x0B (some .code11), [0x01, 0x82, 0x0B, 0x01, 0x67]) := by decide

theorem test_rspExcReadHoldingRegister :
    shown (after .reset (.rspExcReadHoldingRegister 0x01 0x02 0xC0 0xF1)) =
      some (.readHoldingRegister, .exception 0x02 (some .code2), [0x01, 0x83, 0x02, 0xC0, 0xF1]) := by decide

theorem test_rspExcReadInputRegister :
    shown (after .reset (.rspExcReadInputRegister 0x01 0x0A 0xC3 0x07)) =
      some (.readInputRegister, .exception 0x0A (some .code10), [0x01, 0x84, 0x0A, 0xC3, 0x07]) := by decide

theorem test_rspExcWriteCoil :
    shown (after .reset (.rspExcWriteCoil 0x01 0x03 0x02 0x91)) =
      some (.writeCoil, .exception 0x03 (some .code3), [0x01, 0x85, 0x03, 0x02, 0x91]) := by decide

theorem test_rspExcWriteHoldingRegister :
    shown (after .reset (.rspExcWriteHoldingRegister 0x01 0x02 0xC3 0xA1)) =
      some (.writeHoldingRegister, .exception 0x02 (some .code2), [0x01, 0x86, 0x02, 0xC3, 0xA1]) := by decide

theorem test_crcInit : (after { State.reset with crc := 0x1234#16 } .crcInit).crc = 0xFFFF#16 := by decide

/-- 95_test_vectors.md 2.1. -/
theorem test_crcByte :
    [crcStep 0xFFFF#16 0x01, crcStep 0xFFFF#16 0x00, crcStep 0xFFFF#16 0xFF, crcStep 0x0000#16 0x80,
      crcStep 0x8000#16 0x00, crcStep 0xA001#16 0x00] =
      [0x807E#16, 0x40BF#16, 0x00FF#16, 0xA001#16, 0x0080#16, 0xC061#16] := by decide

theorem test_crcByte_continues :
    (after { State.reset with crc := 0x807E#16 } (.crcByte 0x03)).crc = 0x2140#16 := by decide

theorem test_crcOut : (after { State.reset with crc := 0x0A84#16 } .crcOut).ret = .crcPair 0x84 0x0A := by decide

theorem test_crcOut_keeps : (after { State.reset with crc := 0x0A84#16 } .crcOut).crc = 0x0A84#16 := by decide

/-- The check value of R106. -/
theorem test_crc16 :
    (after .reset (.crc16 [0x31, 0x32, 0x33, 0x34, 0x35, 0x36, 0x37, 0x38, 0x39])).ret = .crcValue 0x4B37#16 := by
  decide

theorem test_crc16_order :
    [crc16 [], crc16 [0x01, 0x03], crc16 [0x03, 0x01]] = [0xFFFF#16, 0x2140#16, 0x80C0#16] := by decide

theorem test_encode :
    request (after .reset (.encode 0xFF (.fn .writeHoldingRegister) [0xFF, 0xFF] [0xFF, 0xFF])) =
      ([0xFF, 0x06, 0xFF, 0xFF, 0xFF, 0xFF, 0x9D, 0x80], .requestWrite, .writeHoldingRegister, true) := by
  decide

/-- The function is checked before the widths (R112). -/
theorem test_encode_faults :
    (after .reset (.encode 0x01 .unmapped6 [0x00] [0x00, 0x01])).fault = .invalidParameter .unmappedFunction ∧
    (after .reset (.encode 0x01 (.fn .readCoil) [0x00, 0x00, 0x00] [0x00, 0x01])).fault =
      .invalidParameter .badWidth ∧
    (after .reset (.encode 0x01 (.fn .readCoil) [0x00, 0x00] [])).fault = .invalidParameter .badWidth := by decide

/-- The buffers of R130 that do not decode. -/
theorem test_decode_faults :
    (after .reset (.decode [0x01])).fault = .malformedFrame .tooShort ∧
    (after .reset (.decode [0x01, 0x03])).fault = .malformedFrame .tooShort ∧
    (after .reset (.decode [0x01, 0x07])).fault = .invalidParameter .unmappedFunction ∧
    (after .reset (.decode [0x01, 0x03, 0x02, 0x12, 0x34, 0xB5])).fault = .malformedFrame .tooShort ∧
    (after .reset (.decode [0x01, 0x03, 0x02, 0x12, 0x34, 0xB5, 0x33, 0x00])).fault = .malformedFrame .tooLong ∧
    (after .reset (.decode [0x01, 0x80, 0x02, 0xC0, 0x01])).fault = .invalidParameter .unmappedFunction := by decide

/-- Program P9, rows 4 and 5: `fault` holds the last one, the sticky log both (D20). -/
theorem test_fault_log :
    (after (after .reset (.decode [0x01, 0x05, 0x00, 0xAC, 0xFF, 0x00, 0x4C]))
        (.encode 0x01 .unmapped6 [0x00, 0xAC] [0xFF, 0x00])).faultLog =
      [{ raisedBy := .dec, fault := .malformedFrame .tooShort },
        { raisedBy := .enc, fault := .invalidParameter .unmappedFunction }] := by decide

/-- A mismatch exposes no frame and is no fault; the same frame with its CRC decodes (R130). -/
theorem test_decode :
    (after .reset (.decode [0x01, 0x06, 0x00, 0x01, 0x00, 0x03, 0x0B, 0x98])).ret = .crcMismatch ∧
    shown (after .reset (.decode [0x01, 0x83, 0x09, 0x81, 0x36])) =
      some (.readHoldingRegister, .exception 0x09 none, [0x01, 0x83, 0x09, 0x81, 0x36]) := by decide

theorem test_estArm :
    (after { State.reset with txKind := .requestWrite } .estArm).est = 8#16 ∧
      (after { State.reset with latched := true } .estArm).latched = false := by decide

/-- The table of 95_test_vectors.md 2.4. -/
theorem test_estUpdate :
    [refineEstimate .requestRead [0x01, 0x03] 3#16 false, refineEstimate .requestRead [0x01, 0x03, 0xFF] 3#16 false,
      refineEstimate .requestRead [0x01, 0x11, 0x02] 3#16 false,
      refineEstimate .requestRead [0x01, 0x10, 0x07] 3#16 false,
      refineEstimate .requestWrite [0x01, 0x06, 0x00] 8#16 false,
      refineEstimate .requestWrite [0x01, 0x86, 0x02] 8#16 false,
      refineEstimate .requestRead [0x01, 0x03, 0x06, 0xAE, 0x41] 11#16 true] =
    [.ok (3#16, false), .ok (260#16, true), .ok (5#16, true), .ok (12#16, true), .ok (8#16, false),
      .ok (5#16, true), .ok (11#16, true)] := by decide

theorem test_estUpdate_writes :
    (after { State.reset with rx := [0x01, 0x03, 0x06], est := 3#16 } .estUpdate).est = 11#16 := by decide

/-- Program P2, row 1. -/
theorem test_execute :
    (after .reset (.execute 0x01 (.fn .readHoldingRegister) [0x00, 0x6B] [0x00, 0x03])).sess = .sending ∧
    (after .reset (.execute 0x01 (.fn .readHoldingRegister) [0x00, 0x6B] [0x00, 0x03])).crc = 0x1774#16 := by
  decide

/-- Row X11. -/
theorem test_execute_bad_width :
    (after .reset (.execute 0x01 (.fn .readCoil) [0x00] [0x00, 0x01])).sess = .idle ∧
    (after .reset (.execute 0x01 (.fn .readCoil) [0x00] [0x00, 0x01])).ret =
      .exchange (.codecFault (.invalidParameter .badWidth) []) := by decide

/-! The moves of the outside agents. -/

/-- `EXECUTE` has encoded the request of program P2 and asks the transport `c`. -/
def sending (c : PendingCall) : State :=
  { State.reset with
    tx := requestFrame .readHoldingRegister 0x01 0x00 0x6B 0x00 0x03
    txFn := .readHoldingRegister, txValid := true, sess := .sending, call := c }

/-- The exchange waits for its response, with the bytes `b` received. -/
def waiting (b : List Byte) (est : Word) (latched : Bool) : State :=
  { sending .none with
    sess := .awaitingResponse, wdArmed := true, subscribed := true, rx := b, est := est, latched := latched
    writeTries := 1 }

/-- What one step leaves, the state it started from where it stops. -/
def stepped (s : State) (e : Event) : State :=
  match step { s with inbox := [e] } with
  | .next t => t
  | .fault _ => s
  | .refused _ => s

/-- The four values an ending is told by (95_test_vectors.md 2.5). -/
def ending (s : State) : SessState × TransmissionState × CodecFault × List Byte := (s.sess, s.tstate, s.fault, s.rx)

/-- Row X8. -/
theorem test_notify_refused :
    ending (stepped (sending .supportsNotifications) (.notify false)) =
      (.cantUpdate, .characteristicCantUpdate, .none, []) := by decide

/-- Program P2, row 3. -/
theorem test_write_arms :
    (stepped (sending .write) (.write true)).sess = .awaitingResponse ∧
    (stepped (sending .write) (.write true)).est = 3#16 ∧
    (stepped (sending .write) (.write true)).writeTries = 1 := by decide

/-- Row X6. -/
theorem test_write_fails_twice :
    ending (stepped { sending .write with writeTries := 1 } (.write false)) =
      (.sendFailed, .errorSendMessage, .none, []) := by decide

/-- Program P2, row 5. -/
theorem test_fragment_completes :
    ending (stepped (waiting [0x01, 0x03, 0x06] 11#16 true)
        (.fragment [0xAE, 0x41, 0x56, 0x52, 0x43, 0x40, 0x84, 0x6D])) =
      (.complete, .ok, .none, [0x01, 0x03, 0x06, 0xAE, 0x41, 0x56, 0x52, 0x43, 0x40, 0x84, 0x6D]) := by
  decide

/-- Row X2: the source's literal CRC. -/
theorem test_fragment_bad_crc :
    (stepped (waiting [0x01, 0x03, 0x06] 11#16 true)
        (.fragment [0xAE, 0x41, 0x56, 0x52, 0x43, 0x40, 0x49, 0xAD])).tstate = .errorCRC := by decide

/-- Program P8. -/
theorem test_fragment_undecodable :
    ending (stepped (waiting [] 3#16 false) (.fragment [0x01, 0x90, 0x02, 0xCD, 0xC1])) =
      (.complete, .none, .invalidParameter .unmappedFunction, [0x01, 0x90, 0x02, 0xCD, 0xC1]) := by decide

/-- Program P7. -/
theorem test_fragment_overshoots :
    ending (stepped (waiting [] 3#16 false) (.fragment [0x01, 0x03, 0x02, 0x12, 0x34, 0xB5, 0x33, 0x00])) =
      (.receiveFailed, .errorReceiveMessage, .none, [0x01, 0x03, 0x02, 0x12, 0x34, 0xB5, 0x33, 0x00]) := by
  decide

/-- Row X4. -/
theorem test_watchdog :
    ending (stepped (waiting [] 3#16 false) .watchdog) = (.timedOut, .timeout, .none, []) := by decide

/-- Row X10, with the parameter at its reset value. -/
theorem test_disconnect :
    ending (stepped (waiting [0x01, 0x03, 0x06, 0xAE] 11#16 true) .disconnect) =
      (.receiveFailed, .errorReceiveMessage, .none, [0x01, 0x03, 0x06, 0xAE]) := by decide

/-- Row X13. -/
theorem test_second_execute_refused :
    exec (.execute 0x01 (.fn .readCoil) [0x00, 0x00] [0x00, 0x01]) (waiting [] 3#16 false) =
      .refused .exchangeInFlight := rfl

/-- R200. -/
theorem test_reset_abandons :
    stepped (waiting [0x01] 3#16 false) .reset = State.reset := by decide

/-! Witnesses: a state and operands that meet the hypotheses of each obligation, one for each clause. -/

theorem witness_DecodeOfEncodeIsTheInstruction :
    wellFormed (.rspReadCoil 0x01 0x00 [] 0x20 0xF0) = true ∧
    wellFormed (.rspReadHoldingRegister 0x01 0xFF (List.replicate 255 0x00) 0x14 0xAE) = true ∧
    wellFormed (.execute 0x00 .unmapped7 [] [0xFF]) = true := by decide

theorem witness_EncodeOfDecodedFrameIsTheFrame :
    decode (.requestFrame [0x00, 0x01, 0x00, 0x00, 0x00, 0x00, 0x3D, 0xDB]) =
      .ok (.reqReadCoil 0x00 0x00 0x00 0x00 0x00) ∧
    decode (.responseFrame [0x00, 0x03, 0x00, 0x71, 0x30]) =
      .ok (.rspReadHoldingRegister 0x00 0x00 [] 0x71 0x30) := by decide

theorem witness_DecodedInstructionIsWellFormed :
    decode (.responseFrame [0x01, 0x01, 0x01, 0xFF, 0x11, 0xC8]) = .ok (.rspReadCoil 0x01 0x01 [0xFF] 0x11 0xC8) := by
  decide

theorem witness_ReservedSelectCodesAreRefused :
    9 ≤ (0x9#4).toNat ∧ 9 ≤ (0xF#4).toNat ∧
    ({ State.reset with inbox := [.invoke (.command 0x9#4 idleLines)] } : State).inbox =
      .invoke (.command 0x9#4 idleLines) :: [] := by decide

theorem witness_FunctionTableIsABijection :
    functionOfCode 1#8 = some .readCoil ∧ functionOfCode 6#8 = some .writeHoldingRegister ∧
    functionOfException 129#8 = some .readCoil ∧ functionOfException 134#8 = some .writeHoldingRegister := by decide

theorem witness_ExceptionTableHasTenEntries :
    (exceptionEntry 1#8).isSome = true ∧ (exceptionEntry 11#8).isSome = true ∧
    (exceptionEntry 8#8).isSome = true ∧ exceptionEntry 8#8 = exceptionEntry 8#8 := by decide

/-- The hypothesis of every statement about an operation: after reset, and in each terminal state. -/
theorem witness_ready :
    inFlight State.reset = false ∧
    [SessState.complete, .timedOut, .sendFailed, .cantUpdate, .receiveFailed].map
      (fun x => inFlight { State.reset with sess := x }) = [false, false, false, false, false] := by decide

theorem witness_CrcInitLoadsTheSeed : inFlight State.reset = false := by decide

theorem witness_CrcByteRunsEightShiftSteps : inFlight State.reset = false := by decide

theorem witness_CrcOutEmitsLowByteFirst : inFlight State.reset = false := by decide

theorem witness_Crc16FoldsTheBytesFromTheSeed : inFlight State.reset = false := by decide

/-- The first bit of byte 0, the last bit of the last byte, and a bit of the exception code. -/
theorem witness_SingleBitErrorIsDetected :
    decodeResult [0x01, 0x83, 0x02, 0xC0, 0xF1] =
      .ok (.frame { slave := 0x01, fc := 0x83, fn := .readHoldingRegister, body := .exception 0x02 (some .code2)
                    crcLo := 0xC0, crcHi := 0xF1, wire := [0x01, 0x83, 0x02, 0xC0, 0xF1] } 0xF1C0#16) ∧
    ([0x01, 0x83, 0x02, 0xC0, 0xF1] : List Byte)[0]? = some 0x01 ∧
    checkFrame ([0x01, 0x83, 0x02, 0xC0, 0xF1].set 0 (0x01 ^^^ (1#8 <<< 0))) =
      .ok (.ok (.exception .readHoldingRegister)) ∧
    ([0x01, 0x83, 0x02, 0xC0, 0xF1] : List Byte)[4]? = some 0xF1 ∧
    checkFrame ([0x01, 0x83, 0x02, 0xC0, 0xF1].set 4 (0xF1 ^^^ (1#8 <<< 7))) =
      .ok (.ok (.exception .readHoldingRegister)) := by decide

theorem witness_EncodeBuildsTheRequest : inFlight State.reset = false := by decide

theorem witness_EncodeFaultsAreRecorded :
    inFlight State.reset = false ∧ mappedFunction .unmapped6 = none ∧ mappedFunction .unmapped7 = none ∧
    (mappedFunction (.fn .readCoil)).isSome = true ∧
    ([0x00] : List Byte).length ≠ 2 ∧ ([0x00, 0x00, 0x00] : List Byte).length ≠ 2 := by decide

theorem witness_RequestRowsBuildTheirFrames : inFlight State.reset = false := by decide

theorem witness_EncodedRequestObeysItsLaws :
    ∃ u, exec (.encode 0x01 (.fn .writeCoil) [0x00, 0xAC] [0xFF, 0x00]) State.reset = .next u ∧ u.txValid = true :=
  ⟨_, rfl, rfl⟩

theorem witness_EncodedWriteRequestEchoes :
    inFlight State.reset = false ∧
      (FunctionType.writeCoil = .writeCoil ∨ FunctionType.writeCoil = .writeHoldingRegister) ∧
      (FunctionType.writeHoldingRegister = .writeCoil ∨
        FunctionType.writeHoldingRegister = .writeHoldingRegister) := by decide

theorem witness_ReadResponseDecodes :
    inFlight State.reset = false ∧ isWrite .readCoil = false ∧ ([] : List Byte).length = (0x00#8).toNat ∧
    (List.replicate 255 0x00#8).length = (0xFF#8).toNat := by decide

theorem witness_WriteResponseDecodes :
    inFlight State.reset = false ∧ isWrite .writeCoil = true ∧ isWrite .writeHoldingRegister = true := by decide

theorem witness_ExceptionResponseDecodes : inFlight State.reset = false := by decide

/-- One buffer of each kind with a wrong CRC: `01 83 02 C0 F0`, the swapped CRC of a write, `01 03 00 20 F1`. -/
theorem witness_WrongCrcExposesNoFrame :
    inFlight State.reset = false ∧
    (∃ a e t, ([0x01, 0x83, 0x02] : List Byte) = [a, exceptionCode t, e]) ∧
    [lowByte (crc16 [0x01, 0x83, 0x02]), highByte (crc16 [0x01, 0x83, 0x02])] ≠ [0xC0, 0xF0] ∧
    (∃ a r0 r1 v0 v1 t, isWrite t = true ∧
      ([0x01, 0x06, 0x00, 0x01, 0x00, 0x03] : List Byte) = [a, requestCode t, r0, r1, v0, v1]) ∧
    [lowByte (crc16 [0x01, 0x06, 0x00, 0x01, 0x00, 0x03]), highByte (crc16 [0x01, 0x06, 0x00, 0x01, 0x00, 0x03])] ≠
      [0x0B, 0x98] ∧
    (∃ (a n : Byte) (data : List Byte) (t : FunctionType), isWrite t = false ∧ data.length = n.toNat ∧
      ([0x01, 0x03, 0x00] : List Byte) = a :: requestCode t :: n :: data) ∧
    [lowByte (crc16 [0x01, 0x03, 0x00]), highByte (crc16 [0x01, 0x03, 0x00])] ≠ [0x20, 0xF1] :=
  ⟨by decide, ⟨0x01, 0x02, .readHoldingRegister, by decide⟩, by decide,
    ⟨0x01, 0x00, 0x01, 0x00, 0x03, .writeHoldingRegister, by decide⟩, by decide,
    ⟨0x01, 0x00, [], .readHoldingRegister, by decide⟩, by decide⟩

/-- Each clause at the lengths where it meets its neighbour. -/
theorem witness_DecodeFaultsAreRecorded :
    inFlight State.reset = false ∧ ([0x01] : List Byte).length < 2 ∧
    ([0x01, 0x07] : List Byte)[1]? = some 0x07 ∧ classify 0x07 = none ∧
    classify 0x83 = some (.exception .readHoldingRegister) ∧
    ([0x01, 0x83, 0x02, 0xC0] : List Byte).length < 5 ∧
    5 < ([0x01, 0x83, 0x02, 0xC0, 0xF1, 0x00] : List Byte).length ∧
    classify 0x06 = some (.write .writeHoldingRegister) ∧
    ([0x01, 0x06, 0x00, 0x01, 0x00, 0x03, 0x98] : List Byte).length < 8 ∧
    8 < ([0x01, 0x06, 0x00, 0x01, 0x00, 0x03, 0x98, 0x0B, 0x00] : List Byte).length ∧
    classify 0x03 = some (.read .readHoldingRegister) ∧ ([0x01, 0x03] : List Byte).length = 2 ∧
    ([0x01, 0x03, 0x02, 0x12, 0x34, 0xB5] : List Byte)[2]? = some 0x02 ∧
    ([0x01, 0x03, 0x02, 0x12, 0x34, 0xB5] : List Byte).length < 3 + (0x02#8).toNat + 2 ∧
    3 + (0x02#8).toNat + 2 < ([0x01, 0x03, 0x02, 0x12, 0x34, 0xB5, 0x33, 0x00] : List Byte).length := by decide

theorem witness_DecodeAnswersOnEveryBuffer : inFlight State.reset = false := by decide

theorem witness_ReadRowsFillTheResponse :
    inFlight State.reset = false ∧ ([] : List Byte).length = (0x00#8).toNat ∧
    (List.replicate 255 0x00#8).length = (0xFF#8).toNat := by decide

theorem witness_WriteRowsFillTheResponse : inFlight State.reset = false := by decide

theorem witness_ExceptionRowsFillTheResponse : inFlight State.reset = false := by decide

theorem witness_ResponseRowRunsDecodeOfItsBytes :
    encode (.rspExcReadCoil 0x01 0x01 0x81 0x90) = .responseFrame [0x01, 0x81, 0x01, 0x81, 0x90] := by decide

theorem witness_EstArmSetsTheProvisionalLength : inFlight State.reset = false := by decide

/-- Latched, two bytes, and three bytes with byte 1 on both sides of 16 under both kinds. -/
theorem witness_EstUpdateRefinesTheLength :
    inFlight { State.reset with latched := true } = false ∧
    ([0x01, 0x03] : List Byte).length < 3 ∧ State.reset.latched = false ∧
    ({ State.reset with rx := [0x01, 0x11, 0x02] } : State).rx = 0x01 :: 0x11 :: 0x02 :: [] ∧
    16 < (0x11#8).toNat ∧ (0x10#8).toNat ≤ 16 ∧ State.reset.txKind = .requestRead ∧
    ({ State.reset with txKind := .requestWrite } : State).txKind = .requestWrite := by decide

theorem witness_SettledEstimateNeverChanges :
    3 ≤ ([0x01, 0x03, 0x06] : List Byte).length ∧
    refineEstimate .requestRead [0x01, 0x03, 0x06] 3#16 false = .ok (11#16, true) ∧
    refineEstimate .requestWrite [0x01, 0x06, 0x00] 8#16 false = .ok (8#16, false) := by decide

theorem witness_EstimateIsTheDecodersLength :
    classify 0x01 = some (.read .readCoil) ∧ classify 0x04 = some (.read .readInputRegister) ∧
    classify 0x05 = some (.write .writeCoil) ∧ classify 0x81 = some (.exception .readCoil) ∧
    classify 0x86 = some (.exception .writeHoldingRegister) ∧
    (∀ t, RspClass.exception .readCoil = .read t → RequestKind.requestWrite = .requestRead) ∧
    (∀ t, RspClass.exception .readCoil = .write t → RequestKind.requestRead = .requestWrite) :=
  ⟨by decide, by decide, by decide, by decide, by decide, fun _ h => (by cases h), fun _ h => (by cases h)⟩

theorem witness_ExecuteStartsAnExchange : inFlight State.reset = false := by decide

theorem witness_ExecuteWithBadParametersSendsNothing :
    inFlight State.reset = false ∧ mappedFunction .unmapped6 = none ∧ ([] : List Byte).length ≠ 2 ∧
    ([0x00, 0x00, 0x00] : List Byte).length ≠ 2 := by decide

theorem witness_OperationsDuringAnExchangeAreRefused :
    (sending .write).sess = .sending ∧ (waiting [] 3#16 false).sess = .awaitingResponse := by decide

/-- The machine before a move `e`, the parameters at `p`. -/
def facing (s : State) (e : Event) (p : Params) : State := { s with inbox := [e], cfg := p }

/-- The parameters with the notification check after the write. -/
def checkLast : Params := { State.reset.cfg with notifyCheckFirst := false }

/-- The parameters with `OVERSHOOT_REPORT = WaitForTimeout`. -/
def waitOn : Params := { State.reset.cfg with overshootReport := .waitForTimeout }

theorem witness_NotificationAnswerDecides :
    (facing (sending .supportsNotifications) (.notify false) State.reset.cfg).inbox = .notify false :: [] ∧
    (facing (sending .supportsNotifications) (.notify true) checkLast).inbox = .notify true :: [] ∧
    (sending .supportsNotifications).sess = .sending ∧ (sending .supportsNotifications).call = .supportsNotifications ∧
    State.reset.cfg.notifyCheckFirst = true ∧ checkLast.notifyCheckFirst = false := by decide

theorem witness_FailedWriteIsRetriedOnce :
    (facing (sending .write) (.write false) State.reset.cfg).inbox = .write false :: [] ∧
    (sending .write).sess = .sending ∧ (sending .write).call = .write ∧ (sending .write).writeTries = 0 ∧
    ({ sending .write with writeTries := 1 } : State).writeTries ≠ 0 := by decide

theorem witness_SuccessfulWriteArmsTheExchange :
    (facing (sending .write) (.write true) checkLast).inbox = .write true :: [] ∧
    (sending .write).sess = .sending ∧ (sending .write).call = .write ∧
    (facing (sending .write) (.write true) State.reset.cfg).cfg.notifyCheckFirst = true ∧
    (facing (sending .write) (.write true) checkLast).cfg.notifyCheckFirst = false := by decide

theorem witness_FragmentIsAccumulated :
    (facing (waiting [] 3#16 false) (.fragment [0x01, 0x03, 0x06]) State.reset.cfg).inbox =
      .fragment [0x01, 0x03, 0x06] :: [] ∧
    (waiting [] 3#16 false).sess = .awaitingResponse ∧ (waiting [] 3#16 false).subscribed = true ∧
    refineEstimate (waiting [] 3#16 false).txKind ((waiting [] 3#16 false).rx ++ [0x01, 0x03, 0x06]) 3#16 false =
      .ok (11#16, true) ∧
    ((waiting [] 3#16 false).rx ++ [0x01, 0x03, 0x06]).length < (11#16).toNat := by decide

/-- One byte more than the estimate. -/
theorem witness_OvershootIsReported :
    (waiting [] 3#16 false).sess = .awaitingResponse ∧ (waiting [] 3#16 false).subscribed = true ∧
    refineEstimate (waiting [] 3#16 false).txKind
        ((waiting [] 3#16 false).rx ++ [0x01, 0x83, 0x02, 0xC0, 0xF1, 0x00]) 3#16 false = .ok (5#16, true) ∧
    (5#16).toNat < ((waiting [] 3#16 false).rx ++ [0x01, 0x83, 0x02, 0xC0, 0xF1, 0x00]).length ∧
    State.reset.cfg.overshootReport = .errorReceiveMessage ∧ waitOn.overshootReport = .waitForTimeout := by
  decide

/-- A frame, a mismatch and a codec fault, each of exactly the estimated length. -/
theorem witness_CompleteFrameIsDecoded :
    (waiting [0x01] 3#16 false).sess = .awaitingResponse ∧ (waiting [0x01] 3#16 false).subscribed = true ∧
    refineEstimate (waiting [0x01] 3#16 false).txKind
        ((waiting [0x01] 3#16 false).rx ++ [0x83, 0x02, 0xC0, 0xF1]) 3#16 false = .ok (5#16, true) ∧
    ((waiting [0x01] 3#16 false).rx ++ [0x83, 0x02, 0xC0, 0xF1]).length = (5#16).toNat ∧
    decodeResult [0x01, 0x83, 0x02, 0xC0, 0xF1] =
      .ok (.frame { slave := 0x01, fc := 0x83, fn := .readHoldingRegister, body := .exception 0x02 (some .code2)
                    crcLo := 0xC0, crcHi := 0xF1, wire := [0x01, 0x83, 0x02, 0xC0, 0xF1] } 0xF1C0#16) ∧
    decodeResult [0x01, 0x83, 0x02, 0xC0, 0xF0] = .ok (.crcMismatch 0xF1C0#16) ∧
    decodeResult [0x01, 0x90, 0x02, 0xCD, 0xC1] = .ok (.raised (.invalidParameter .unmappedFunction)) := by
  decide

theorem witness_WatchdogEndsTheWait :
    (facing (waiting [] 3#16 false) .watchdog State.reset.cfg).inbox = .watchdog :: [] ∧
    (waiting [] 3#16 false).sess = .awaitingResponse ∧ (waiting [] 3#16 false).wdArmed = true := by decide

theorem witness_DisconnectCancelsTheWait :
    (facing (waiting [] 3#16 false) .disconnect State.reset.cfg).inbox = .disconnect :: [] ∧
    (waiting [] 3#16 false).sess = .awaitingResponse := by decide

theorem witness_StrayEventChangesNothing :
    (facing State.reset (.fragment [0x06]) State.reset.cfg).inbox = .fragment [0x06] :: [] ∧
    (facing (sending .write) .watchdog State.reset.cfg).inbox = .watchdog :: [] ∧
    State.reset.sess ≠ .awaitingResponse ∧ (sending .write).sess ≠ .awaitingResponse := by decide

/-- The invariant holds while an exchange waits with three bytes of an eleven-byte response. -/
theorem witness_inv_waiting : StateInv (waiting [0x01, 0x03, 0x06] 11#16 true) where
  bitcntZero := by decide
  txFits := fun _ => ⟨by decide, by decide⟩
  rspShown := by decide
  rspFits := fun _ h => by cases h
  watchdogFits := by decide
  subscriptionFits := by decide
  doneFits := by decide
  overshootFits := fun h => by cases h
  tagsFit := rfl
  callFits := by decide
  requestReady := by decide
  nothingYet := fun h => by cases h
  estBound := by decide
  estFloor := by decide
  estSettled := by decide
  notYetComplete := by decide

/-- Under `WaitForTimeout`, one byte more than the five of an exception has come. -/
def waitingOn : State :=
  { waiting [0x01, 0x83, 0x02, 0xC0, 0xF1, 0x00] 5#16 true with overshoot := true, cfg := waitOn }

theorem witness_inv_overshoot : StateInv waitingOn where
  bitcntZero := by decide
  txFits := fun _ => ⟨by decide, by decide⟩
  rspShown := by decide
  rspFits := fun _ h => by cases h
  watchdogFits := by decide
  subscriptionFits := by decide
  doneFits := by decide
  overshootFits := fun _ h => by cases h
  tagsFit := rfl
  callFits := by decide
  requestReady := by decide
  nothingYet := fun h => by cases h
  estBound := by decide
  estFloor := by decide
  estSettled := by decide
  notYetComplete := by decide

/-- The state program P4 ends in, the request frame apart. -/
def timedOut : State := { State.reset with sess := .timedOut, tstate := .timeout }

theorem witness_inv_ended : StateInv timedOut where
  bitcntZero := by decide
  txFits := fun h => by cases h
  rspShown := by decide
  rspFits := fun _ h => by cases h
  watchdogFits := by decide
  subscriptionFits := by decide
  doneFits := by decide
  overshootFits := fun h => by cases h
  tagsFit := rfl
  callFits := by decide
  requestReady := by decide
  nothingYet := fun h => by cases h
  estBound := by decide
  estFloor := fun h => by cases h
  estSettled := fun h => by cases h
  notYetComplete := fun h => by cases h

theorem witness_EmptyFragmentOnlyRestartsTheWatchdog :
    StateInv (withInbox [.fragment []] (waiting [0x01, 0x03, 0x06] 11#16 true)) ∧
    (withInbox [.fragment []] (waiting [0x01, 0x03, 0x06] 11#16 true)).inbox = .fragment [] :: [] ∧
    (withInbox [.fragment []] (waiting [0x01, 0x03, 0x06] 11#16 true)).sess = .awaitingResponse ∧
    StateInv (withInbox [.fragment []] waitingOn) ∧ (withInbox [.fragment []] waitingOn).sess = .awaitingResponse :=
  ⟨stateInv_withInbox witness_inv_waiting _, rfl, rfl, stateInv_withInbox witness_inv_overshoot _, rfl⟩

/-- The session still waits after the first fragment, and, under `WaitForTimeout`, after an overshoot. -/
theorem witness_FragmentBoundariesDoNotMatter :
    (∃ t, StateInv (waiting [0x01, 0x03, 0x06] 11#16 true) ∧
      onFragment [0xAE] (waiting [0x01, 0x03, 0x06] 11#16 true) = .ok t ∧ t.sess = .awaitingResponse) ∧
    (∃ t, StateInv waitingOn ∧ onFragment [0xAE] waitingOn = .ok t ∧ t.sess = .awaitingResponse) :=
  ⟨⟨_, witness_inv_waiting, rfl, rfl⟩, ⟨_, witness_inv_overshoot, rfl, rfl⟩⟩

theorem witness_EveryStepKeepsTheInvariant :
    ∃ t, StateInv (withInbox [.watchdog] (waiting [0x01, 0x03, 0x06] 11#16 true)) ∧
      step (withInbox [.watchdog] (waiting [0x01, 0x03, 0x06] 11#16 true)) = .next t :=
  ⟨_, stateInv_withInbox witness_inv_waiting _, rfl⟩

/-- A change of the session state for each agent: reset, caller, transport, timer. -/
theorem witness_SessionChangesOnlyAsTheTableSays :
    (∃ t, step (facing (waiting [] 3#16 false) .reset State.reset.cfg) = .next t ∧ t.sess = .idle) ∧
    (∃ t, step (facing State.reset (.invoke (encode (.execute 0x01 (.fn .readCoil) [0x00, 0x13] [0x00, 0x25])))
      State.reset.cfg) = .next t ∧ t.sess = .sending) ∧
    (∃ t, step (facing (sending .supportsNotifications) (.notify false) State.reset.cfg) = .next t ∧
      t.sess = .cantUpdate) ∧
    (∃ t, step (facing (sending .write) (.write true) State.reset.cfg) = .next t ∧ t.sess = .awaitingResponse) ∧
    (∃ t, step (facing (waiting [] 3#16 false) .watchdog State.reset.cfg) = .next t ∧ t.sess = .timedOut) :=
  ⟨⟨_, rfl, rfl⟩, ⟨_, rfl, rfl⟩, ⟨_, rfl, rfl⟩, ⟨_, rfl, rfl⟩, ⟨_, rfl, rfl⟩⟩

theorem witness_ResetAbandonsTheExchange :
    (facing (waiting [0x01] 3#16 false) .reset State.reset.cfg).inbox = .reset :: [] := by decide

theorem witness_StepRunsTheDecodedInstruction :
    (facing State.reset (.invoke (.command 0x1#4 lines)) State.reset.cfg).inbox =
      .invoke (.command 0x1#4 lines) :: [] ∧
    decode (.command 0x1#4 lines) = .ok (.crcByte 0xAE) := by decide

/-- A step that raises a fault, one that clears it, and one that leaves it. -/
theorem witness_FaultLogIsSticky :
    (∃ t, step (facing State.reset (.invoke (.command 0x5#4 idleLines)) State.reset.cfg) = .next t ∧
      t.fault ≠ .none) ∧
    (∃ t, step (facing { State.reset with fault := .malformedFrame .tooShort } .reset State.reset.cfg) = .next t ∧
      t.fault = .none) ∧
    (∃ t, step (facing { State.reset with fault := .malformedFrame .tooShort } .watchdog State.reset.cfg) = .next t ∧
      t.fault = .malformedFrame .tooShort) :=
  ⟨⟨_, rfl, by decide⟩, ⟨_, rfl, rfl⟩, ⟨_, rfl, rfl⟩⟩

theorem witness_StepTakesOneMove :
    (∃ t, step (facing State.reset .disconnect State.reset.cfg) = .next t) ∧ step State.reset = .next State.reset ∧
      State.reset.inbox = [] :=
  ⟨⟨_, rfl⟩, rfl, rfl⟩

theorem witness_OnlyEncodersWriteTheRequestFrame :
    (∃ t, (∀ w, encode .crcInit ≠ .requestFrame w) ∧
      (∀ a fn addr tail, Instr.crcInit ≠ .encode a fn addr tail ∧ Instr.crcInit ≠ .execute a fn addr tail) ∧
      exec .crcInit State.reset = .next t) ∧
    (∃ t, Event.watchdog ≠ .reset ∧ (∀ r, Event.watchdog ≠ .invoke r) ∧
      step (facing (waiting [] 3#16 false) .watchdog State.reset.cfg) = .next t) :=
  ⟨⟨_, fun _ h => by (cases h), fun _ _ _ _ => ⟨fun h => (by cases h), fun h => (by cases h)⟩, rfl⟩,
    ⟨_, fun h => by (cases h), fun _ h => by (cases h), rfl⟩⟩

theorem witness_UnitOperationsLeaveTheSessionAlone :
    ∃ t, (∀ a fn addr tail, Instr.estArm ≠ .execute a fn addr tail) ∧ exec .estArm State.reset = .next t :=
  ⟨_, fun _ _ _ _ h => by (cases h), rfl⟩

theorem witness_UnitsKeepToTheirOwnRegisters :
    (∃ t, exec (.crcByte 0xFF) State.reset = .next t ∧ Instr.crcByte 0xFF ≠ .estArm ∧
      Instr.crcByte 0xFF ≠ .estUpdate) ∧
    (∃ t, exec .estUpdate State.reset = .next t) ∧ (∃ t, exec .crcOut State.reset = .next t) :=
  ⟨⟨_, rfl, by decide, by decide⟩, ⟨_, rfl⟩, ⟨_, rfl⟩⟩

/-- In `Idle`, after a direct `CRC.INIT` and `EST.ARM`. -/
def idle : State := { State.reset with est := 3#16 }

theorem witness_inv_idle : StateInv idle where
  bitcntZero := by decide
  txFits := fun h => by cases h
  rspShown := by decide
  rspFits := fun _ h => by cases h
  watchdogFits := by decide
  subscriptionFits := by decide
  doneFits := by decide
  overshootFits := fun h => by cases h
  tagsFit := rfl
  callFits := by decide
  requestReady := by decide
  nothingYet := fun h => by cases h
  estBound := by decide
  estFloor := fun h => by cases h
  estSettled := fun h => by cases h
  notYetComplete := fun h => by cases h

theorem witness_EndedExchangeIsQuiet :
    StateInv timedOut ∧ isTerminal timedOut.sess = true ∧ StateInv idle ∧ idle.sess = .idle :=
  ⟨witness_inv_ended, rfl, witness_inv_idle, rfl⟩

end Sys2Proof.Tests
end

namespace Sys2Proof.Machine

/-! No step reads outside a buffer (R7). The shared operations of an instruction always answer, so every
instruction is `callerOp` of a state, and `callerOp` of a state is that state or a refusal. -/

theorem encodeWith_ok (a : Byte) (fn : FnSel) (addr tail : List Byte) (s : State) :
    ∃ t, encodeWith a fn addr tail s = .ok t := by
  rcases encodeWith_cases a fn addr tail s with ⟨_, _, _, _, _, -, -, -, h⟩ | ⟨_, h⟩
  · exact ⟨_, h⟩
  · exact ⟨_, h⟩

theorem decodeUnit_ok (w : List Byte) (s : State) : ∃ t, decodeUnit w s = .ok t := by
  obtain ⟨_, -, h⟩ := decodeUnit_eq w s
  exact ⟨_, h⟩

theorem updateEstimate_ok (s : State) : ∃ t, updateEstimate s = .ok t := by
  obtain ⟨_, -, h⟩ := updateEstimate_eq s
  exact ⟨_, h⟩

theorem startExchange_ok (a : Byte) (fn : FnSel) (addr tail : List Byte) (s : State) :
    ∃ t, startExchange a fn addr tail s = .ok t := by
  rcases startExchange_cases a fn addr tail s with ⟨_, _, _, _, _, -, -, -, h⟩ | ⟨_, h⟩
  · exact ⟨_, h⟩
  · exact ⟨_, h⟩

/-- A caller's operation whose rule answers is `callerOp` of the state answered. -/
theorem callerOp_of_ok {r : Except Fault State} (h : ∃ t, r = .ok t) (s : State) :
    ∃ t, callerOp s r = callerOp s (.ok t) := by
  obtain ⟨t, rfl⟩ := h
  exact ⟨t, rfl⟩

/-- Every instruction is an operation of the caller whose rule answers: no instruction reads outside a buffer,
whatever its operands and the state (R7, R160). -/
theorem exec_eq_callerOp_ok (i : Instr) (s : State) : ∃ t, exec i s = callerOp s (.ok t) := by
  cases i with
  | reqReadCoil | reqReadDigitalInput | reqReadHoldingRegister | reqReadInputRegister | reqWriteCoil
  | reqWriteHoldingRegister | encode => exact callerOp_of_ok (encodeWith_ok _ _ _ _ s) s
  | rspReadCoil | rspReadDigitalInput | rspReadHoldingRegister | rspReadInputRegister | rspWriteCoil
  | rspWriteHoldingRegister | rspExcReadCoil | rspExcReadDigitalInput | rspExcReadHoldingRegister
  | rspExcReadInputRegister | rspExcWriteCoil | rspExcWriteHoldingRegister | decode =>
    exact callerOp_of_ok (decodeUnit_ok _ s) s
  | crcInit | crcByte | crcOut | crc16 | estArm => exact ⟨_, rfl⟩
  | estUpdate => exact callerOp_of_ok (updateEstimate_ok _) s
  | execute slave fn addr tail => exact callerOp_of_ok (startExchange_ok slave fn addr tail s) s

theorem callerOp_ok_ne_fault (s t : State) (f : Fault) : callerOp s (.ok t) ≠ .fault f := by
  cases hs : inFlight s with
  | true => simp [callerOp_in_flight _ hs]
  | false => simp [callerOp_ready hs]

theorem exec_ne_fault (i : Instr) (s : State) (f : Fault) : exec i s ≠ .fault f := by
  obtain ⟨t, h⟩ := exec_eq_callerOp_ok i s
  rw [h]
  exact callerOp_ok_ne_fault s t f

/-- Bytes that are no row of the table are refused, or are a response buffer that `DECODE` answers on. -/
theorem onUndecodable_ne_fault (r : Raw) (e : DecodeError) (s : State) (f : Fault) :
    onUndecodable r e s ≠ .fault f := by
  cases r with
  | command => simp [onUndecodable]
  | requestFrame => simp [onUndecodable]
  | responseFrame w =>
    obtain ⟨t, h⟩ := decodeUnit_ok w s
    simp only [onUndecodable, h]
    exact callerOp_ok_ne_fault s t f

theorem invoke_ne_fault (r : Raw) (s : State) (f : Fault) : invoke r s ≠ .fault f := by
  unfold invoke
  split
  · exact exec_ne_fault _ s f
  · exact onUndecodable_ne_fault r _ s f

theorem handle_ne_fault (e : Event) (s : State) (f : Fault) : handle e s ≠ .fault f := by
  cases e with
  | invoke r => exact invoke_ne_fault r s f
  | fragment w =>
    obtain ⟨t, h⟩ := onFragment_ok w s
    simp [handle, h, outcomeOf]
  | notify | write | watchdog | disconnect | reset => simp [handle]

/-- Settles O50: with a move to come the step is its handler, which never faults, and with none it waits. -/
theorem noStepReadsOutsideABuffer : Obligations.NoStepReadsOutsideABuffer := by
  intro s f
  unfold step
  split
  · simp
  · exact handle_ne_fault _ _ f

end Sys2Proof.Machine

namespace Sys2Proof.Machine

/-! What an operation of the caller answers, and what each unit leaves alone: the session (R24, R28, R30, R32, R34),
the request frame (R23), the estimate (R25). -/

/-- `ENCODE` that answers has written the frame or raised its fault (R111, R112). -/
theorem encodeWith_eq_ok {a : Byte} {fn : FnSel} {addr tail : List Byte} {s t : State}
    (h : encodeWith a fn addr tail s = .ok t) :
    (∃ k r0 r1 t0 t1, t = writeTx k (requestFrame k a r0 r1 t0 t1) (loadRequest a fn addr tail s)) ∨
    (∃ c, t = raiseCodec .enc (.invalidParameter c) (loadRequest a fn addr tail s)) := by
  rcases encodeWith_cases a fn addr tail s with ⟨k, r0, r1, t0, t1, -, -, -, ht⟩ | ⟨c, ht⟩
  · exact .inl ⟨k, r0, r1, t0, t1, Except.ok.inj (h.symm.trans ht)⟩
  · exact .inr ⟨c, Except.ok.inj (h.symm.trans ht)⟩

theorem decodeUnit_eq_ok {w : List Byte} {s t : State} (h : decodeUnit w s = .ok t) :
    ∃ d, decodeResult w = .ok d ∧ t = applyDecode d s := by
  obtain ⟨d, hd, ht⟩ := decodeUnit_eq w s
  exact ⟨d, hd, Except.ok.inj (h.symm.trans ht)⟩

theorem updateEstimate_eq_ok {s t : State} (h : updateEstimate s = .ok t) :
    ∃ e, refineEstimate s.txKind s.rx s.est s.latched = .ok e ∧ t = setEstimate e s := by
  obtain ⟨e, he, ht⟩ := updateEstimate_eq s
  exact ⟨e, he, Except.ok.inj (h.symm.trans ht)⟩

/-- What an instruction has done when it answers: one constructor for the `REQ.*` rows, one for the `RSP_*` rows
(log 3), one for each operation of R82. -/
inductive ExecAnswer (s : State) : Instr → State → Prop
  | requestRow {i : Instr} {k : FunctionType} {a r0 r1 t0 t1 : Byte}
      (row : encode i = .requestFrame (requestBytes k a r0 r1 t0 t1)) :
      ExecAnswer s i (writeTx k (requestFrame k a r0 r1 t0 t1) (loadRequest a (.fn k) [r0, r1] [t0, t1] s))
  | responseRow {i : Instr} {w : List Byte} {d : DecodeResult}
      (row : encode i = .responseFrame w) (result : decodeResult w = .ok d) :
      ExecAnswer s i (applyDecode d s)
  | crcInit : ExecAnswer s .crcInit (returning .nothing (setCrc Config.crcSeed s))
  | crcByte (b : Byte) : ExecAnswer s (.crcByte b) (returning .nothing (setCrc (crcStep s.crc b) s))
  | crcOut : ExecAnswer s .crcOut (returning (.crcPair (lowByte s.crc) (highByte s.crc)) s)
  | crc16 (bytes : List Byte) :
      ExecAnswer s (.crc16 bytes) (returning (.crcValue (crc16 bytes)) (setCrc (crc16 bytes) s))
  | encode {a : Byte} {fn : FnSel} {addr tail : List Byte} {t : State}
      (result : encodeWith a fn addr tail s = .ok t) : ExecAnswer s (.encode a fn addr tail) t
  | decode {w : List Byte} {d : DecodeResult} (result : decodeResult w = .ok d) :
      ExecAnswer s (.decode w) (applyDecode d s)
  | estArm : ExecAnswer s .estArm (returning .nothing (armEstimate s))
  | estUpdate {e : Word × Bool} (result : refineEstimate s.txKind s.rx s.est s.latched = .ok e) :
      ExecAnswer s .estUpdate (setEstimate e (returning .nothing s))
  | execute {a : Byte} {fn : FnSel} {addr tail : List Byte} {t : State}
      (result : startExchange a fn addr tail s = .ok t) : ExecAnswer s (.execute a fn addr tail) t

/-- A request row of the table ran `ENCODE` on good operands. -/
theorem execAnswer_requestRow {i : Instr} {k : FunctionType} {a r0 r1 t0 t1 : Byte} {s t : State}
    (row : encode i = .requestFrame (requestBytes k a r0 r1 t0 t1))
    (h : encodeWith a (.fn k) [r0, r1] [t0, t1] s = .ok t) : ExecAnswer s i t := by
  rw [encodeWith_good] at h
  cases h
  exact .requestRow row

/-- A response row of the table ran `DECODE` of its bytes. -/
theorem execAnswer_responseRow {i : Instr} {w : List Byte} {s t : State} (row : encode i = .responseFrame w)
    (h : decodeUnit w s = .ok t) : ExecAnswer s i t := by
  obtain ⟨d, hd, rfl⟩ := decodeUnit_eq_ok h
  exact .responseRow row hd

/-- An instruction answers only with no exchange in flight (R160), and then with what its unit does. -/
theorem exec_next {i : Instr} {s t : State} (h : exec i s = .next t) :
    inFlight s = false ∧ ExecAnswer s i t := by
  constructor
  · obtain ⟨u, hu⟩ := exec_eq_callerOp_ok i s
    exact (callerOp_next (hu.symm.trans h)).1
  · cases i with
    | reqReadCoil | reqReadDigitalInput | reqReadHoldingRegister | reqReadInputRegister | reqWriteCoil
    | reqWriteHoldingRegister => exact execAnswer_requestRow rfl (callerOp_next h).2
    | rspReadCoil | rspReadDigitalInput | rspReadHoldingRegister | rspReadInputRegister | rspWriteCoil
    | rspWriteHoldingRegister | rspExcReadCoil | rspExcReadDigitalInput | rspExcReadHoldingRegister
    | rspExcReadInputRegister | rspExcWriteCoil | rspExcWriteHoldingRegister =>
      exact execAnswer_responseRow rfl (callerOp_next h).2
    | crcInit => cases (callerOp_next h).2; exact .crcInit
    | crcByte b => cases (callerOp_next h).2; exact .crcByte b
    | crcOut => cases (callerOp_next h).2; exact .crcOut
    | crc16 bytes => cases (callerOp_next h).2; exact .crc16 bytes
    | encode => exact .encode (callerOp_next h).2
    | decode =>
      obtain ⟨d, hd, rfl⟩ := decodeUnit_eq_ok (callerOp_next h).2
      exact .decode hd
    | estArm => cases (callerOp_next h).2; exact .estArm
    | estUpdate =>
      obtain ⟨e, he, rfl⟩ := updateEstimate_eq_ok (callerOp_next h).2
      exact .estUpdate he
    | execute => exact .execute (callerOp_next h).2

/-- The registers of the session, and the model's own fields of it, are the same in `t` as in `s`. -/
structure SameSession (s t : State) : Prop where
  rx : t.rx = s.rx
  sess : t.sess = s.sess
  tstate : t.tstate = s.tstate
  done : t.done = s.done
  overshoot : t.overshoot = s.overshoot
  wdArmed : t.wdArmed = s.wdArmed
  subscribed : t.subscribed = s.subscribed
  writeTries : t.writeTries = s.writeTries
  call : t.call = s.call
  calls : t.calls = s.calls
  inbox : t.inbox = s.inbox
  cfg : t.cfg = s.cfg

/-- The request frame and the request operands are the same in `t` as in `s`. -/
structure SameRequest (s t : State) : Prop where
  tx : t.tx = s.tx
  txKind : t.txKind = s.txKind
  txFn : t.txFn = s.txFn
  txValid : t.txValid = s.txValid
  req : t.req = s.req

/-- The estimator registers are the same in `t` as in `s`. -/
structure SameEstimate (s t : State) : Prop where
  est : t.est = s.est
  latched : t.latched = s.latched

/-- `t` comes after `s` with no move taken, no parameter written and no transport call unmade. -/
structure KeepsOutside (s t : State) : Prop where
  inbox : t.inbox = s.inbox
  cfg : t.cfg = s.cfg
  calls : s.calls <+: t.calls

theorem SameRequest.rfl {s : State} : SameRequest s s := by constructor <;> rfl

theorem SameRequest.trans {s t u : State} (h : SameRequest s t) (h' : SameRequest t u) : SameRequest s u :=
  ⟨h'.tx.trans h.tx, h'.txKind.trans h.txKind, h'.txFn.trans h.txFn, h'.txValid.trans h.txValid,
    h'.req.trans h.req⟩

theorem KeepsOutside.rfl {s : State} : KeepsOutside s s := ⟨Eq.refl _, Eq.refl _, List.prefix_rfl⟩

theorem KeepsOutside.trans {s t u : State} (h : KeepsOutside s t) (h' : KeepsOutside t u) : KeepsOutside s u :=
  ⟨h'.inbox.trans h.inbox, h'.cfg.trans h.cfg, h.calls.trans h'.calls⟩

theorem SameSession.keepsOutside {s t : State} (h : SameSession s t) : KeepsOutside s t :=
  ⟨h.inbox, h.cfg, h.calls ▸ List.prefix_rfl⟩

theorem sameSession_encodeWith {a : Byte} {fn : FnSel} {addr tail : List Byte} {s t : State}
    (h : encodeWith a fn addr tail s = .ok t) : SameSession s t := by
  rcases encodeWith_eq_ok h with ⟨_, _, _, _, _, rfl⟩ | ⟨_, rfl⟩ <;> constructor <;> rfl

theorem sameEstimate_encodeWith {a : Byte} {fn : FnSel} {addr tail : List Byte} {s t : State}
    (h : encodeWith a fn addr tail s = .ok t) : SameEstimate s t := by
  rcases encodeWith_eq_ok h with ⟨_, _, _, _, _, rfl⟩ | ⟨_, rfl⟩ <;> constructor <;> rfl

theorem sameSession_applyDecode (d : DecodeResult) (s : State) : SameSession s (applyDecode d s) := by
  cases d <;> constructor <;> rfl

theorem sameRequest_applyDecode (d : DecodeResult) (s : State) : SameRequest s (applyDecode d s) := by
  cases d <;> constructor <;> rfl

theorem sameEstimate_applyDecode (d : DecodeResult) (s : State) : SameEstimate s (applyDecode d s) := by
  cases d <;> constructor <;> rfl

/-- No operation but `EXECUTE` writes a register of the session. -/
theorem ExecAnswer.sameSession {i : Instr} {s t : State} (h : ExecAnswer s i t)
    (hi : ∀ a fn addr tail, i ≠ .execute a fn addr tail) : SameSession s t := by
  cases h with
  | requestRow => exact sameSession_encodeWith (encodeWith_good _ _ _ _ _ _ s)
  | encode result => exact sameSession_encodeWith result
  | responseRow | decode => exact sameSession_applyDecode _ s
  | crcInit | crcByte | crcOut | crc16 | estArm | estUpdate => constructor <;> rfl
  | execute => exact absurd rfl (hi _ _ _ _)

/-- No operation but `ENCODE`, the `REQ.*` rows and `EXECUTE` writes the request frame. -/
theorem ExecAnswer.sameRequest {i : Instr} {s t : State} (h : ExecAnswer s i t)
    (hrow : ∀ w, Sys2Proof.encode i ≠ .requestFrame w)
    (hop : ∀ a fn addr tail, i ≠ .encode a fn addr tail ∧ i ≠ .execute a fn addr tail) : SameRequest s t := by
  cases h with
  | requestRow row => exact absurd row (hrow _)
  | encode => exact absurd rfl (hop _ _ _ _).1
  | execute => exact absurd rfl (hop _ _ _ _).2
  | responseRow | decode => exact sameRequest_applyDecode _ s
  | crcInit | crcByte | crcOut | crc16 | estArm | estUpdate => constructor <;> rfl

/-- No operation but `EST.*` and `EXECUTE` writes the estimate. -/
theorem ExecAnswer.sameEstimate {i : Instr} {s t : State} (h : ExecAnswer s i t)
    (harm : i ≠ .estArm) (hupd : i ≠ .estUpdate) (hexe : ∀ a fn addr tail, i ≠ .execute a fn addr tail) :
    SameEstimate s t := by
  cases h with
  | requestRow => exact sameEstimate_encodeWith (encodeWith_good _ _ _ _ _ _ s)
  | encode result => exact sameEstimate_encodeWith result
  | responseRow | decode => exact sameEstimate_applyDecode _ s
  | crcInit | crcByte | crcOut | crc16 => constructor <;> rfl
  | estArm => exact absurd rfl harm
  | estUpdate => exact absurd rfl hupd
  | execute => exact absurd rfl (hexe _ _ _ _)

/-! The moves of the transport and the watchdog, once each (R152 to R158), and what they leave alone. -/

/-- The answers to `supportsNotifications` (R152): outside its precondition nothing, otherwise the write is next,
the exchange is armed, or it fails. -/
theorem onNotify_cases (answer : Bool) (s : State) :
    onNotify answer s = s ∨
    (s.sess = .sending ∧ s.call = .supportsNotifications ∧
      ((answer = true ∧ s.cfg.notifyCheckFirst = true ∧
          onNotify answer s = { transportCall .supportsNotifications s with call := .write }) ∨
       (answer = true ∧ s.cfg.notifyCheckFirst = false ∧
          onNotify answer s = armExchange (transportCall .supportsNotifications s)) ∨
       (answer = false ∧ onNotify answer s =
          leaveSending .cantUpdate .characteristicCantUpdate (transportCall .supportsNotifications s)))) := by
  unfold onNotify
  by_cases hs : s.sess = .sending ∧ s.call = .supportsNotifications
  · refine .inr ⟨hs.1, hs.2, ?_⟩
    cases answer <;> cases hc : s.cfg.notifyCheckFirst <;> simp [hs]
  · exact .inl (if_neg hs)

/-- The write made and counted (R153). -/
def countWrite (s : State) : State :=
  { transportCall (.write s.tx) s with writeTries := if s.writeTries = 0 then 1 else 2 }

/-- The answers to `write` (R153): outside its precondition nothing, otherwise the exchange is armed, the
notification check is next, the write is tried again, or the exchange fails. -/
theorem onWrite_cases (answer : Bool) (s : State) :
    onWrite answer s = s ∨
    (s.sess = .sending ∧ s.call = .write ∧
      ((answer = true ∧ s.cfg.notifyCheckFirst = true ∧ onWrite answer s = armExchange (countWrite s)) ∨
       (answer = true ∧ s.cfg.notifyCheckFirst = false ∧
          onWrite answer s = { countWrite s with call := .supportsNotifications }) ∨
       (answer = false ∧ s.writeTries = 0 ∧ onWrite answer s = countWrite s) ∨
       (answer = false ∧ s.writeTries ≠ 0 ∧
          onWrite answer s = leaveSending .sendFailed .errorSendMessage (countWrite s)))) := by
  unfold onWrite
  by_cases hs : s.sess = .sending ∧ s.call = .write
  · refine .inr ⟨hs.1, hs.2, ?_⟩
    cases answer <;> cases hc : s.cfg.notifyCheckFirst <;> by_cases hw : s.writeTries = 0 <;>
      simp [hs, hw, countWrite]
  · exact .inl (if_neg hs)

/-- A fragment appended, the watchdog restarted and the estimate refined, before the comparisons (R155). -/
def takeFragment (f : List Byte) (e : Word × Bool) (s : State) : State :=
  setEstimate e (restartWatchdog (rxAppend f s))

/-- The comparisons that follow it: overshoot, completion, or waiting on (R155). -/
theorem settleFragment_eq_ok {s t : State} (h : settleFragment s = .ok t) :
    (s.est.toNat < rxLen s ∧ t = overshootExchange s) ∨
    (rxLen s = s.est.toNat ∧
      ∃ d, decodeResult s.rx = .ok d ∧ t = completionOf d (applyDecode d (enterComplete s))) ∨
    (rxLen s < s.est.toNat ∧ t = s) := by
  rcases settleFragment_cases s with ⟨hlt, ht⟩ | ⟨heq, ht⟩ | ⟨hlt, ht⟩
  · exact .inl ⟨hlt, Except.ok.inj (h.symm.trans ht)⟩
  · obtain ⟨d, hd, hc⟩ := completeExchange_eq s
    exact .inr (.inl ⟨heq, d, hd, Except.ok.inj (h.symm.trans (ht.trans hc))⟩)
  · exact .inr (.inr ⟨hlt, Except.ok.inj (h.symm.trans ht)⟩)

/-- A fragment outside its precondition is discarded; inside it is taken and compared (R155). -/
theorem onFragment_eq_ok {f : List Byte} {s t : State} (h : onFragment f s = .ok t) :
    t = s ∨
    (s.sess = .awaitingResponse ∧ s.subscribed = true ∧
      ∃ e, refineEstimate s.txKind (s.rx ++ f) s.est s.latched = .ok e ∧
        settleFragment (takeFragment f e s) = .ok t) := by
  unfold onFragment at h
  split at h
  case isTrue hs =>
    obtain ⟨e, he, hf⟩ := fragmentStep_eq f s
    exact .inr ⟨hs.1, hs.2, e, he, hf.symm.trans h⟩
  case isFalse => exact .inl (Except.ok.inj h).symm

/-- The watchdog ends an exchange that waits, or does nothing (R157). -/
theorem onWatchdog_cases (s : State) :
    onWatchdog s = s ∨
    (s.sess = .awaitingResponse ∧ s.wdArmed = true ∧ onWatchdog s = leaveAwaiting .timedOut .timeout s) := by
  unfold onWatchdog
  split
  case isTrue hs => exact .inr ⟨hs.1, hs.2, rfl⟩
  case isFalse => exact .inl rfl

/-- A disconnect ends an exchange that waits, or does nothing (R158). -/
theorem onDisconnect_cases (s : State) :
    onDisconnect s = s ∨
    (s.sess = .awaitingResponse ∧ onDisconnect s = leaveAwaiting .receiveFailed s.cfg.disconnectState s) := by
  unfold onDisconnect
  split
  case isTrue hs => exact .inr ⟨hs, rfl⟩
  case isFalse => exact .inl rfl

/-- With no move the block waits; with one the step handles it, the move taken (R20, R200). -/
theorem step_next {s t : State} (h : step s = .next t) :
    (s.inbox = [] ∧ t = s) ∨ ∃ e rest, s.inbox = e :: rest ∧ handle e (withInbox rest s) = .next t := by
  unfold step at h
  split at h
  case h_1 hnil => cases h; exact .inl ⟨hnil, rfl⟩
  case h_2 e rest hcons => exact .inr ⟨e, rest, hcons, h⟩

theorem step_cons {s : State} {e : Event} {rest : List Event} (h : s.inbox = e :: rest) :
    step s = handle e (withInbox rest s) := by
  simp [step, h]

/-- An invocation that answers is an instruction that answers: its own, or `DECODE` of response bytes that make no
frame (log 5). -/
theorem invoke_next {r : Raw} {s t : State} (h : invoke r s = .next t) : ∃ i, exec i s = .next t := by
  unfold invoke at h
  split at h
  · exact ⟨_, h⟩
  · cases r with
    | responseFrame w => exact ⟨.decode w, h⟩
    | command | requestFrame => simp [onUndecodable] at h

theorem outcomeOf_next {r : Except Fault State} {t : State} (h : outcomeOf r = .next t) : r = .ok t := by
  cases r with
  | ok s => cases h; rfl
  | error => simp [outcomeOf] at h

/-- What every move of the transport and the watchdog leaves alone: the request frame, and the model's own fields
outside the block. -/
structure MoveFrame (s t : State) : Prop extends SameRequest s t, KeepsOutside s t

theorem MoveFrame.rfl {s : State} : MoveFrame s s := ⟨.rfl, .rfl⟩

theorem MoveFrame.trans {s t u : State} (h : MoveFrame s t) (h' : MoveFrame t u) : MoveFrame s u :=
  ⟨h.toSameRequest.trans h'.toSameRequest, h.toKeepsOutside.trans h'.toKeepsOutside⟩

theorem moveFrame_transportCall (c : TransportCall) (s : State) : MoveFrame s (transportCall c s) :=
  ⟨by constructor <;> rfl, Eq.refl _, Eq.refl _, List.prefix_append _ _⟩

theorem moveFrame_withCall (c : PendingCall) (s : State) : MoveFrame s { s with call := c } :=
  ⟨by constructor <;> rfl, Eq.refl _, Eq.refl _, List.prefix_rfl⟩

theorem moveFrame_countWrite (s : State) : MoveFrame s (countWrite s) :=
  ⟨by constructor <;> rfl, Eq.refl _, Eq.refl _, List.prefix_append _ _⟩

theorem moveFrame_armExchange (s : State) : MoveFrame s (armExchange s) :=
  ⟨by constructor <;> rfl, Eq.refl _, Eq.refl _, List.prefix_append _ _⟩

theorem moveFrame_leaveSending (d : SessState) (x : TransmissionState) (s : State) :
    MoveFrame s (leaveSending d x s) :=
  ⟨by constructor <;> rfl, Eq.refl _, Eq.refl _, List.prefix_rfl⟩

theorem moveFrame_leaveAwaiting (d : SessState) (x : TransmissionState) (s : State) :
    MoveFrame s (leaveAwaiting d x s) :=
  ⟨by constructor <;> rfl, Eq.refl _, Eq.refl _, List.prefix_append _ _⟩

theorem moveFrame_overshootExchange (s : State) : MoveFrame s (overshootExchange s) := by
  have hflag : MoveFrame s { s with overshoot := true } :=
    ⟨by constructor <;> rfl, Eq.refl _, Eq.refl _, List.prefix_rfl⟩
  unfold overshootExchange
  split
  · exact hflag.trans (moveFrame_leaveAwaiting _ _ _)
  · exact hflag

theorem moveFrame_takeFragment (f : List Byte) (e : Word × Bool) (s : State) : MoveFrame s (takeFragment f e s) :=
  ⟨by constructor <;> rfl, Eq.refl _, Eq.refl _, List.prefix_rfl⟩

theorem moveFrame_enterComplete (s : State) : MoveFrame s (enterComplete s) :=
  ⟨by constructor <;> rfl, Eq.refl _, Eq.refl _, List.prefix_append _ _⟩

theorem moveFrame_applyDecode (d : DecodeResult) (s : State) : MoveFrame s (applyDecode d s) :=
  ⟨sameRequest_applyDecode d s, (sameSession_applyDecode d s).keepsOutside⟩

theorem moveFrame_completionOf (d : DecodeResult) (s : State) : MoveFrame s (completionOf d s) := by
  cases d <;> exact ⟨by constructor <;> rfl, Eq.refl _, Eq.refl _, List.prefix_rfl⟩

theorem moveFrame_onNotify (answer : Bool) (s : State) : MoveFrame s (onNotify answer s) := by
  have hcall := moveFrame_transportCall .supportsNotifications s
  rcases onNotify_cases answer s with h | ⟨-, -, ⟨-, -, h⟩ | ⟨-, -, h⟩ | ⟨-, h⟩⟩ <;> rw [h]
  · exact .rfl
  · exact hcall.trans (moveFrame_withCall _ _)
  · exact hcall.trans (moveFrame_armExchange _)
  · exact hcall.trans (moveFrame_leaveSending _ _ _)

theorem moveFrame_onWrite (answer : Bool) (s : State) : MoveFrame s (onWrite answer s) := by
  have hwrite := moveFrame_countWrite s
  rcases onWrite_cases answer s with h | ⟨-, -, ⟨-, -, h⟩ | ⟨-, -, h⟩ | ⟨-, -, h⟩ | ⟨-, -, h⟩⟩ <;> rw [h]
  · exact .rfl
  · exact hwrite.trans (moveFrame_armExchange _)
  · exact hwrite.trans (moveFrame_withCall _ _)
  · exact hwrite
  · exact hwrite.trans (moveFrame_leaveSending _ _ _)

theorem moveFrame_settleFragment {s t : State} (h : settleFragment s = .ok t) : MoveFrame s t := by
  rcases settleFragment_eq_ok h with ⟨-, rfl⟩ | ⟨-, d, -, rfl⟩ | ⟨-, rfl⟩
  · exact moveFrame_overshootExchange s
  · exact ((moveFrame_enterComplete s).trans (moveFrame_applyDecode d _)).trans (moveFrame_completionOf d _)
  · exact .rfl

theorem moveFrame_onFragment {f : List Byte} {s t : State} (h : onFragment f s = .ok t) : MoveFrame s t := by
  rcases onFragment_eq_ok h with rfl | ⟨-, -, e, -, hsettle⟩
  · exact .rfl
  · exact (moveFrame_takeFragment f e s).trans (moveFrame_settleFragment hsettle)

theorem moveFrame_onWatchdog (s : State) : MoveFrame s (onWatchdog s) := by
  rcases onWatchdog_cases s with h | ⟨-, -, h⟩ <;> rw [h]
  · exact .rfl
  · exact moveFrame_leaveAwaiting _ _ s

theorem moveFrame_onDisconnect (s : State) : MoveFrame s (onDisconnect s) := by
  rcases onDisconnect_cases s with h | ⟨-, h⟩ <;> rw [h]
  · exact .rfl
  · exact moveFrame_leaveAwaiting _ _ s

/-- No move of the transport or the watchdog writes the request frame, takes a move, writes a parameter or unmakes
a transport call. -/
theorem moveFrame_handle {e : Event} {s t : State} (h : handle e s = .next t) (hreset : e ≠ .reset)
    (hinvoke : ∀ r, e ≠ .invoke r) : MoveFrame s t := by
  cases e with
  | invoke r => exact absurd rfl (hinvoke r)
  | reset => exact absurd rfl hreset
  | notify answer => cases h; exact moveFrame_onNotify answer s
  | write answer => cases h; exact moveFrame_onWrite answer s
  | fragment => exact moveFrame_onFragment (outcomeOf_next h)
  | watchdog => cases h; exact moveFrame_onWatchdog s
  | disconnect => cases h; exact moveFrame_onDisconnect s

theorem startExchange_eq_ok {a : Byte} {fn : FnSel} {addr tail : List Byte} {s t : State}
    (h : startExchange a fn addr tail s = .ok t) :
    (∃ k r0 r1 t0 t1,
      t = { writeTx k (requestFrame k a r0 r1 t0 t1) (loadRequest a fn addr tail (freshIdle s)) with
            sess := .sending
            call := firstCall s.cfg
            ret := .nothing }) ∨
    (∃ c, t = { raiseCodec .enc (.invalidParameter c) (loadRequest a fn addr tail (freshIdle s)) with
            ret := .exchange (.codecFault (.invalidParameter c) []) }) := by
  rcases startExchange_cases a fn addr tail s with ⟨k, r0, r1, t0, t1, -, -, -, ht⟩ | ⟨c, ht⟩
  · exact .inl ⟨k, r0, r1, t0, t1, Except.ok.inj (h.symm.trans ht)⟩
  · exact .inr ⟨c, Except.ok.inj (h.symm.trans ht)⟩

theorem keepsOutside_startExchange {a : Byte} {fn : FnSel} {addr tail : List Byte} {s t : State}
    (h : startExchange a fn addr tail s = .ok t) : KeepsOutside s t := by
  rcases startExchange_eq_ok h with ⟨_, _, _, _, _, rfl⟩ | ⟨_, rfl⟩ <;>
    exact ⟨Eq.refl _, Eq.refl _, List.prefix_rfl⟩

theorem ExecAnswer.of_execute {a : Byte} {fn : FnSel} {addr tail : List Byte} {s t : State}
    (h : ExecAnswer s (.execute a fn addr tail) t) : startExchange a fn addr tail s = .ok t := by
  cases h with
  | execute result => exact result
  | requestRow row | responseRow row => cases row

theorem ExecAnswer.keepsOutside {i : Instr} {s t : State} (h : ExecAnswer s i t) : KeepsOutside s t := by
  by_cases hi : ∃ a fn addr tail, i = .execute a fn addr tail
  · obtain ⟨a, fn, addr, tail, rfl⟩ := hi
    exact keepsOutside_startExchange h.of_execute
  · exact (h.sameSession fun a fn addr tail heq => hi ⟨a, fn, addr, tail, heq⟩).keepsOutside

/-- No move of any agent takes a further move, writes a parameter or unmakes a transport call. -/
theorem keepsOutside_handle {e : Event} {s t : State} (h : handle e s = .next t) : KeepsOutside s t := by
  cases e with
  | invoke r =>
    obtain ⟨i, hi⟩ := invoke_next h
    exact (exec_next hi).2.keepsOutside
  | reset => cases h; exact ⟨Eq.refl _, Eq.refl _, List.prefix_rfl⟩
  | notify | write | fragment | watchdog | disconnect =>
    exact (moveFrame_handle h (by simp) (by simp)).toKeepsOutside

end Sys2Proof.Machine

namespace Sys2Proof.Machine

/-! The frames of the operations (R20, R23 to R34). -/

/-- Settles O57: the answer of every instruction but `EXECUTE` has the session of the state it ran on. -/
theorem unitOperationsLeaveTheSessionAlone : Obligations.UnitOperationsLeaveTheSessionAlone := by
  intro i s t hi h
  have hs := (exec_next h).2.sameSession hi
  exact ⟨fun k => by simp [readByte, hs.rx], hs.sess, hs.tstate, hs.done, hs.overshoot, hs.wdArmed,
    hs.subscribed, hs.writeTries, hs.call, hs.calls, hs.inbox, hs.cfg⟩

/-- Two states with the same request registers hold the same request frame, byte by byte. -/
theorem SameRequest.readByte_tx {s t : State} (h : SameRequest s t) (k : Nat) :
    readByte t .tx k = readByte s .tx k := by
  simp [readByte, h.tx]

/-- Settles O56: the request registers are the same after every other operation, and after every move of the
transport or the watchdog. -/
theorem onlyEncodersWriteTheRequestFrame : Obligations.OnlyEncodersWriteTheRequestFrame := by
  constructor
  · intro i s t hrow hop h
    have hr := (exec_next h).2.sameRequest hrow hop
    exact ⟨hr.readByte_tx, hr.txKind, hr.txFn, hr.txValid, hr.req⟩
  · intro s t e rest hinbox hreset hinvoke h
    have htake : SameRequest s (withInbox rest s) := by constructor <;> rfl
    rw [step_cons hinbox] at h
    have hr := htake.trans (moveFrame_handle h hreset hinvoke).toSameRequest
    exact ⟨hr.readByte_tx, hr.txKind, hr.txFn, hr.txValid, hr.req⟩

/-- Settles O58: the estimate by the answer of every instruction but `EST.*` and `EXECUTE`, the other registers by
the answers of `EST.*` and of the CRC operations, each a write of its own unit. -/
theorem unitsKeepToTheirOwnRegisters : Obligations.UnitsKeepToTheirOwnRegisters := by
  intro i s t h
  obtain ⟨-, h⟩ := exec_next h
  refine ⟨fun harm hupd hexe => ?_, fun hi => ?_, fun hi => ?_⟩
  · have he := h.sameEstimate harm hupd hexe
    exact ⟨he.est, he.latched⟩
  · cases h with
    | crcInit | crcByte | crcOut | crc16 | estArm | estUpdate => exact ⟨rfl, rfl, rfl, rfl⟩
    | encode | decode | execute => simp at hi
    | requestRow row | responseRow row =>
      rcases hi with rfl | rfl | rfl | ⟨_, rfl⟩ | rfl | ⟨_, rfl⟩ <;> cases row
  · cases h with
    | crcOut | estArm | estUpdate => exact ⟨rfl, rfl⟩
    | crcInit | crcByte | crc16 | encode | decode | execute => simp at hi
    | requestRow row | responseRow row => rcases hi with rfl | rfl | rfl <;> cases row

/-- Settles O55: the step takes the move off `inbox`, and its handler leaves the rest of what lies outside alone. -/
theorem stepTakesOneMove : Obligations.StepTakesOneMove := by
  intro s t h
  rcases step_next h with ⟨hnil, rfl⟩ | ⟨e, rest, hcons, hhandle⟩
  · exact ⟨by simp [hnil], rfl, List.prefix_rfl, fun _ => rfl⟩
  · obtain ⟨hinbox, hcfg, hcalls⟩ := keepsOutside_handle hhandle
    exact ⟨by simp [hinbox, hcons], hcfg, hcalls, by simp [hcons]⟩

/-- Settles O54: the handler of an invocation that decodes is `exec`. -/
theorem stepRunsTheDecodedInstruction : Obligations.StepRunsTheDecodedInstruction := by
  intro s r rest i hinbox hdecode
  rw [step_cons hinbox]
  simp [handle, invoke, hdecode, withInbox]

/-- Settles O52: each value is the one written in the reset state. -/
theorem resetLeavesTheTableOfValues : Obligations.ResetLeavesTheTableOfValues := by
  unfold Obligations.ResetLeavesTheTableOfValues
  decide

/-! `ENCODE` on good and on bad operands (R111, R112). -/

/-- The kind of a request is RequestWrite for the two write functions (R75). -/
theorem requestKind_eq (t : FunctionType) :
    requestKind t = if t = .writeCoil ∨ t = .writeHoldingRegister then .requestWrite else .requestRead := by
  cases t <;> rfl

theorem execEncode_of_ok {a : Byte} {fn : FnSel} {addr tail : List Byte} {s t : State} (hs : inFlight s = false)
    (h : encodeWith a fn addr tail s = .ok t) : exec (.encode a fn addr tail) s = .next t := by
  change callerOp s (encodeWith a fn addr tail s) = .next t
  rw [h, callerOp_ready hs]

/-- Settles O15: good operands give the frame, and the CRC unit holds the word of its two CRC bytes. -/
theorem encodeBuildsTheRequest : Obligations.EncodeBuildsTheRequest := by
  intro a r0 r1 t0 t1 t s hs
  rw [execEncode_of_ok hs (encodeWith_good a t r0 r1 t0 t1 s), ← requestKind_eq]
  simp only [writeTx, setCrc, loadRequest, requestFrame, wordOfBytes_low_high]
  rfl

/-- Settles O16: the function is looked at first, then the widths of the two operands. -/
theorem encodeFaultsAreRecorded : Obligations.EncodeFaultsAreRecorded := by
  intro a fn addr tail s hs
  refine ⟨fun hfn => ?_, fun hfn hwidth => ?_⟩
  · exact execEncode_of_ok hs (encodeWith_unmapped hfn a addr tail s)
  · cases fn with
    | fn t => exact execEncode_of_ok hs (encodeWith_badWidth a t s hwidth)
    | unmapped6 | unmapped7 => cases hfn

end Sys2Proof.Machine

namespace Sys2Proof.Machine

/-! The invariant, in the parts its preservation is proved by: what concerns the registers of the units, an exchange
at rest, and an exchange that waits. -/

/-- The part of the invariant about the registers of the CRC unit, the encoder, the decoder and the estimator. -/
structure UnitInv (s : State) : Prop where
  bitcntZero : s.bitcnt = 0#4
  txFits : s.txValid = true → txCorrect s
  rspShown : s.rspValid = s.rsp.isSome
  rspFits : ∀ r, s.rsp = some r → rspCorrect r
  estBound : s.est.toNat ≤ Config.rspMaxLen

/-- The part about the session while no exchange is in flight. -/
structure RestInv (s : State) : Prop where
  ended : inFlight s = false
  wdArmed : s.wdArmed = false
  subscribed : s.subscribed = false
  call : s.call = .none
  doneFits : s.done = decide (s.sess = .complete)
  overshootFits : s.overshoot = true → s.cfg.overshootReport = .errorReceiveMessage → s.sess = .receiveFailed
  tagsFit : tagFits s

/-- The part about the session while it sends (R152, R153). -/
structure SendInv (s : State) : Prop where
  sess : s.sess = .sending
  wdArmed : s.wdArmed = false
  subscribed : s.subscribed = false
  call : s.call ≠ .none
  done : s.done = false
  overshootFits : s.overshoot = true → s.cfg.overshootReport ≠ .errorReceiveMessage
  tstate : s.tstate = .none
  txValid : s.txValid = true
  rx : s.rx = []

/-- The part about the session while it waits for a response, all but the comparison of `rx` with the estimate. -/
structure WaitInv (s : State) : Prop where
  sess : s.sess = .awaitingResponse
  wdArmed : s.wdArmed = true
  subscribed : s.subscribed = true
  call : s.call = .none
  done : s.done = false
  overshootFits : s.overshoot = true → s.cfg.overshootReport ≠ .errorReceiveMessage
  tstate : s.tstate = .none
  txValid : s.txValid = true
  estFloor : 3 ≤ s.est.toNat
  estSettled : refineEstimate s.txKind s.rx s.est s.latched = .ok (s.est, s.latched)

theorem StateInv.unitInv {s : State} (h : StateInv s) : UnitInv s :=
  ⟨h.bitcntZero, h.txFits, h.rspShown, h.rspFits, h.estBound⟩

theorem StateInv.restInv {s : State} (h : StateInv s) (hs : inFlight s = false) : RestInv s := by
  obtain ⟨hsend, hwait⟩ := (inFlight_false_iff s).mp hs
  exact {
    ended := hs
    wdArmed := by simp [h.watchdogFits, hwait]
    subscribed := by simp [h.subscriptionFits, hwait]
    call := by simpa [hsend] using h.callFits
    doneFits := h.doneFits
    overshootFits := h.overshootFits
    tagsFit := h.tagsFit }

theorem StateInv.sendInv {s : State} (h : StateInv s) (hs : s.sess = .sending) : SendInv s where
  sess := hs
  wdArmed := by simp [h.watchdogFits, hs]
  subscribed := by simp [h.subscriptionFits, hs]
  call := h.callFits.mpr hs
  done := by simp [h.doneFits, hs]
  overshootFits := fun ho hc => by simpa [hs] using h.overshootFits ho hc
  tstate := by simpa [tagFits, hs] using h.tagsFit
  txValid := h.requestReady (by simp [hs])
  rx := h.nothingYet hs

theorem StateInv.waitInv {s : State} (h : StateInv s) (hs : s.sess = .awaitingResponse) : WaitInv s where
  sess := hs
  wdArmed := by simp [h.watchdogFits, hs]
  subscribed := by simp [h.subscriptionFits, hs]
  call := by simpa [hs] using h.callFits
  done := by simp [h.doneFits, hs]
  overshootFits := fun ho hc => by simpa [hs] using h.overshootFits ho hc
  tstate := by simpa [tagFits, hs] using h.tagsFit
  txValid := h.requestReady (by simp [hs])
  estFloor := h.estFloor hs
  estSettled := h.estSettled hs

/-- At rest the clauses about an exchange in flight say nothing. -/
theorem stateInv_of_rest {s : State} (hu : UnitInv s) (hr : RestInv s) : StateInv s := by
  obtain ⟨hsend, hwait⟩ := (inFlight_false_iff s).mp hr.ended
  exact {
    bitcntZero := hu.bitcntZero
    txFits := hu.txFits
    rspShown := hu.rspShown
    rspFits := hu.rspFits
    watchdogFits := by simp [hr.wdArmed, hwait]
    subscriptionFits := by simp [hr.subscribed, hwait]
    doneFits := hr.doneFits
    overshootFits := hr.overshootFits
    tagsFit := hr.tagsFit
    callFits := by simp [hr.call, hsend]
    requestReady := by simp [hr.ended]
    nothingYet := fun h => absurd h hsend
    estBound := hu.estBound
    estFloor := fun h => absurd h hwait
    estSettled := fun h => absurd h hwait
    notYetComplete := fun h => absurd h hwait }

/-- While the session sends the clauses about waiting say nothing. -/
theorem stateInv_of_send {s : State} (hu : UnitInv s) (hs : SendInv s) : StateInv s :=
  have hwait : s.sess ≠ .awaitingResponse := by simp [hs.sess]
  { bitcntZero := hu.bitcntZero
    txFits := hu.txFits
    rspShown := hu.rspShown
    rspFits := hu.rspFits
    watchdogFits := by simp [hs.wdArmed, hwait]
    subscriptionFits := by simp [hs.subscribed, hwait]
    doneFits := by simp [hs.done, hs.sess]
    overshootFits := fun ho hc => absurd hc (hs.overshootFits ho)
    tagsFit := by simp [tagFits, hs.sess, hs.tstate]
    callFits := by simp [hs.call, hs.sess]
    requestReady := fun _ => hs.txValid
    nothingYet := fun _ => hs.rx
    estBound := hu.estBound
    estFloor := fun h => absurd h hwait
    estSettled := fun h => absurd h hwait
    notYetComplete := fun h => absurd h hwait }

/-- While the session waits the comparison is all that is left to show. -/
theorem stateInv_of_wait {s : State} (hu : UnitInv s) (hw : WaitInv s)
    (hrx : rxLen s < s.est.toNat ∨ (s.overshoot = true ∧ s.est.toNat < rxLen s)) : StateInv s where
  bitcntZero := hu.bitcntZero
  txFits := hu.txFits
  rspShown := hu.rspShown
  rspFits := hu.rspFits
  watchdogFits := by simp [hw.wdArmed, hw.sess]
  subscriptionFits := by simp [hw.subscribed, hw.sess]
  doneFits := by simp [hw.done, hw.sess]
  overshootFits := fun ho hc => absurd hc (hw.overshootFits ho)
  tagsFit := by simp [tagFits, hw.sess, hw.tstate]
  callFits := by simp [hw.call, hw.sess]
  requestReady := fun _ => hw.txValid
  nothingYet := fun h => by simp [hw.sess] at h
  estBound := hu.estBound
  estFloor := fun _ => hw.estFloor
  estSettled := fun _ => hw.estSettled
  notYetComplete := fun _ => hrx

/-! The units keep their part. -/

/-- `EST.UPDATE` leaves the estimate as it was, or latches one between 5 and the longest frame (R141, R144(c)). -/
theorem refineEstimate_eq_ok {k : RequestKind} {rx : List Byte} {est : Word} {l : Bool} {e : Word × Bool}
    (h : refineEstimate k rx est l = .ok e) :
    e = (est, l) ∨ (e.2 = true ∧ 5 ≤ e.1.toNat ∧ e.1.toNat ≤ Config.rspMaxLen) := by
  cases l with
  | true =>
    rw [refineEstimate_latched] at h
    exact .inl (Except.ok.inj h).symm
  | false =>
    match rx with
    | [] | [_] | [_, _] =>
      rw [refineEstimate_short k est false (by simp)] at h
      exact .inl (Except.ok.inj h).symm
    | b0 :: b1 :: b2 :: rest =>
      rw [refineEstimate_open] at h
      cases h
      have hb2 := b2.isLt
      split
      · exact .inr (by simp)
      · cases k with
        | requestRead => exact .inr ⟨rfl, by simp, by simp; omega⟩
        | requestWrite => exact .inl rfl

/-- A second `EST.UPDATE` on the same bytes changes nothing (R144(a)). -/
theorem refineEstimate_settled {k : RequestKind} {rx : List Byte} {est : Word} {l : Bool} {e : Word × Bool}
    (h : refineEstimate k rx est l = .ok e) : refineEstimate k rx e.1 e.2 = .ok e := by
  rcases refineEstimate_eq_ok h with rfl | ⟨hlatched, -, -⟩
  · exact h
  · rw [hlatched, refineEstimate_latched, ← hlatched]

theorem refineEstimate_bound {k : RequestKind} {rx : List Byte} {est : Word} {l : Bool} {e : Word × Bool}
    (h : refineEstimate k rx est l = .ok e) (hest : est.toNat ≤ Config.rspMaxLen) :
    e.1.toNat ≤ Config.rspMaxLen := by
  rcases refineEstimate_eq_ok h with rfl | ⟨-, -, hmax⟩
  · exact hest
  · exact hmax

theorem refineEstimate_floor {k : RequestKind} {rx : List Byte} {est : Word} {l : Bool} {e : Word × Bool}
    (h : refineEstimate k rx est l = .ok e) (hest : 3 ≤ est.toNat) : 3 ≤ e.1.toNat := by
  rcases refineEstimate_eq_ok h with rfl | ⟨-, hmin, -⟩
  · exact hest
  · omega

theorem provisionalEstimate_bounds (k : RequestKind) :
    3 ≤ (provisionalEstimate k).toNat ∧ (provisionalEstimate k).toNat ≤ Config.rspMaxLen := by
  cases k <;> decide

/-- A frame that `DECODE` exposes is `Correct` (R27). -/
theorem rspCorrect_of_decodeResult {w : List Byte} {r : Rsp} {c : Word}
    (h : decodeResult w = .ok (.frame r c)) : rspCorrect r := by
  rcases decodeResult_cases w with ⟨_, -, hd⟩ | ⟨_, _, _, -, -, hd⟩ | ⟨p, r', hp, hd, hwire, hcrc⟩ <;>
    cases h.symm.trans hd
  exact ⟨p, hwire.trans hp, hcrc⟩

/-- The request `ENCODE` writes is correct (R27). -/
theorem txCorrect_writeTx (k : FunctionType) (a r0 r1 t0 t1 : Byte) (s : State) :
    txCorrect (writeTx k (requestFrame k a r0 r1 t0 t1) s) := ⟨rfl, rfl⟩

theorem unitInv_returning {s : State} (h : UnitInv s) (r : Ret) : UnitInv (returning r s) :=
  ⟨h.bitcntZero, h.txFits, h.rspShown, h.rspFits, h.estBound⟩

theorem unitInv_setCrc {s : State} (h : UnitInv s) (v : Word) : UnitInv (setCrc v s) :=
  ⟨rfl, h.txFits, h.rspShown, h.rspFits, h.estBound⟩

theorem unitInv_setEstimate {s : State} (h : UnitInv s) {e : Word × Bool}
    (he : e.1.toNat ≤ Config.rspMaxLen) : UnitInv (setEstimate e s) :=
  ⟨h.bitcntZero, h.txFits, h.rspShown, h.rspFits, he⟩

theorem unitInv_armEstimate {s : State} (h : UnitInv s) : UnitInv (armEstimate s) :=
  unitInv_setEstimate h (e := (provisionalEstimate s.txKind, false)) (provisionalEstimate_bounds s.txKind).2

theorem unitInv_freshIdle {s : State} (h : UnitInv s) : UnitInv (freshIdle s) :=
  ⟨h.bitcntZero, h.txFits, rfl, by simp, by simp⟩

theorem unitInv_encodeWith {a : Byte} {fn : FnSel} {addr tail : List Byte} {s t : State}
    (h : UnitInv s) (ht : encodeWith a fn addr tail s = .ok t) : UnitInv t := by
  rcases encodeWith_eq_ok ht with ⟨k, r0, r1, t0, t1, rfl⟩ | ⟨c, rfl⟩
  · exact ⟨rfl, fun _ => txCorrect_writeTx k a r0 r1 t0 t1 _, h.rspShown, h.rspFits, h.estBound⟩
  · exact ⟨h.bitcntZero, by simp, h.rspShown, h.rspFits, h.estBound⟩

theorem unitInv_applyDecode {w : List Byte} {d : DecodeResult} {s : State}
    (h : UnitInv s) (hd : decodeResult w = .ok d) : UnitInv (applyDecode d s) := by
  cases d with
  | frame r c =>
    have hr : ∀ r', some r = some r' → rspCorrect r' := by
      rintro _ ⟨⟩
      exact rspCorrect_of_decodeResult hd
    exact ⟨rfl, h.txFits, rfl, hr, h.estBound⟩
  | crcMismatch c => exact ⟨rfl, h.txFits, rfl, nofun, h.estBound⟩
  | raised f => exact ⟨h.bitcntZero, h.txFits, rfl, nofun, h.estBound⟩

/-- The units' part through an operation of any unit but the session. -/
theorem ExecAnswer.unitInv {i : Instr} {s t : State} (h : ExecAnswer s i t) (hs : UnitInv s)
    (hi : ∀ a fn addr tail, i ≠ .execute a fn addr tail) : UnitInv t := by
  cases h with
  | requestRow => exact unitInv_encodeWith hs (encodeWith_good _ _ _ _ _ _ s)
  | encode result => exact unitInv_encodeWith hs result
  | responseRow _ result | decode result => exact unitInv_applyDecode hs result
  | crcInit | crcByte | crc16 => exact unitInv_returning (unitInv_setCrc hs _) _
  | crcOut => exact unitInv_returning hs _
  | estArm => exact unitInv_returning (unitInv_armEstimate hs) _
  | estUpdate result =>
    exact unitInv_setEstimate (unitInv_returning hs _) (refineEstimate_bound result hs.estBound)
  | execute => exact absurd rfl (hi _ _ _ _)

/-- A state with the same session is at rest as before. -/
theorem SameSession.restInv {s t : State} (h : SameSession s t) (hr : RestInv s) : RestInv t where
  ended := by simpa [inFlight, h.sess] using hr.ended
  wdArmed := h.wdArmed.trans hr.wdArmed
  subscribed := h.subscribed.trans hr.subscribed
  call := h.call.trans hr.call
  doneFits := by simpa [h.done, h.sess] using hr.doneFits
  overshootFits := by simpa [h.overshoot, h.cfg, h.sess] using hr.overshootFits
  tagsFit := by simpa [tagFits, h.sess, h.tstate, h.cfg] using hr.tagsFit

/-! `EXECUTE` (R151). -/

theorem firstCall_ne_none (p : Params) : firstCall p ≠ .none := by
  unfold firstCall
  split <;> simp

/-- `EXECUTE` leaves the session sending a correct request, or at rest with the codec fault returned. -/
theorem stateInv_startExchange {a : Byte} {fn : FnSel} {addr tail : List Byte} {s t : State}
    (hu : UnitInv s) (hr : RestInv s) (h : startExchange a fn addr tail s = .ok t) : StateInv t := by
  have hidle := unitInv_freshIdle hu
  rcases startExchange_eq_ok h with ⟨k, r0, r1, t0, t1, rfl⟩ | ⟨c, rfl⟩
  · refine stateInv_of_send ⟨rfl, fun _ => ⟨rfl, rfl⟩, rfl, hidle.rspFits, hidle.estBound⟩ ?_
    exact ⟨rfl, rfl, hr.subscribed, firstCall_ne_none _, rfl, nofun, rfl, rfl, rfl⟩
  · refine stateInv_of_rest ⟨hidle.bitcntZero, nofun, rfl, hidle.rspFits, hidle.estBound⟩ ?_
    exact ⟨rfl, rfl, hr.subscribed, rfl, rfl, nofun, rfl⟩

/-- An operation that answers keeps the invariant. -/
theorem stateInv_exec {i : Instr} {s t : State} (hs : StateInv s) (h : exec i s = .next t) : StateInv t := by
  obtain ⟨hrest, h⟩ := exec_next h
  by_cases hi : ∃ a fn addr tail, i = .execute a fn addr tail
  · obtain ⟨a, fn, addr, tail, rfl⟩ := hi
    exact stateInv_startExchange hs.unitInv (hs.restInv hrest) h.of_execute
  · have hi' : ∀ a fn addr tail, i ≠ .execute a fn addr tail := fun a fn addr tail heq => hi ⟨a, fn, addr, tail, heq⟩
    exact stateInv_of_rest (h.unitInv hs.unitInv hi') ((h.sameSession hi').restInv (hs.restInv hrest))

/-! The moves of an exchange that sends (R152 to R154). -/

theorem stateInv_withCall {s : State} (h : StateInv s) (hs : s.sess = .sending) {c : PendingCall}
    (hc : c ≠ .none) : StateInv { s with call := c } := by
  obtain ⟨hsess, hwd, hsub, -, hdone, hover, htag, hvalid, hrx⟩ := h.sendInv hs
  exact stateInv_of_send ⟨h.bitcntZero, h.txFits, h.rspShown, h.rspFits, h.estBound⟩
    ⟨hsess, hwd, hsub, hc, hdone, hover, htag, hvalid, hrx⟩

theorem stateInv_countWrite {s : State} (h : StateInv s) : StateInv (countWrite s) :=
  ⟨h.1, h.2, h.3, h.4, h.5, h.6, h.7, h.8, h.9, h.10, h.11, h.12, h.13, h.14, h.15, h.16⟩

/-- Arming sets the provisional estimate, which an empty buffer has not reached. -/
theorem stateInv_armExchange {s : State} (h : StateInv s) (hs : s.sess = .sending) : StateInv (armExchange s) := by
  obtain ⟨hmin, hmax⟩ := provisionalEstimate_bounds s.txKind
  have hsend := h.sendInv hs
  have hunit : UnitInv (armExchange s) :=
    ⟨h.bitcntZero, h.txFits, h.rspShown, h.rspFits, by simpa using hmax⟩
  have hwait : WaitInv (armExchange s) :=
    { sess := by simp
      wdArmed := by simp
      subscribed := by simp
      call := by simp
      done := by simp [hsend.done]
      overshootFits := by simpa using hsend.overshootFits
      tstate := by simp [hsend.tstate]
      txValid := by simp [hsend.txValid]
      estFloor := by simpa using hmin
      estSettled := refineEstimate_short _ _ _ (by simp [hsend.rx]) }
  exact stateInv_of_wait hunit hwait (.inl (by simp [rxLen, hsend.rx]; omega))

theorem stateInv_leaveSending {s : State} (h : StateInv s) (hs : s.sess = .sending) {d : SessState}
    {x : TransmissionState} (hd : d = .cantUpdate ∨ d = .sendFailed) (htag : tagFits (leaveSending d x s)) :
    StateInv (leaveSending d x s) := by
  obtain ⟨-, hwd, hsub, -, hdone, hover, -, -, -⟩ := h.sendInv hs
  refine stateInv_of_rest ⟨h.bitcntZero, h.txFits, h.rspShown, h.rspFits, h.estBound⟩
    ⟨?_, hwd, hsub, rfl, ?_, fun ho hc => absurd hc (hover ho), htag⟩
  · rcases hd with rfl | rfl <;> rfl
  · rcases hd with rfl | rfl <;> simpa using hdone

theorem stateInv_onNotify {s : State} (h : StateInv s) (answer : Bool) : StateInv (onNotify answer s) := by
  have hcall := stateInv_transportCall h .supportsNotifications
  rcases onNotify_cases answer s with heq | ⟨hs, -, ⟨-, -, heq⟩ | ⟨-, -, heq⟩ | ⟨-, heq⟩⟩ <;> rw [heq]
  · exact h
  · exact stateInv_withCall hcall hs (by simp)
  · exact stateInv_armExchange hcall hs
  · exact stateInv_leaveSending hcall hs (.inl rfl) rfl

theorem stateInv_onWrite {s : State} (h : StateInv s) (answer : Bool) : StateInv (onWrite answer s) := by
  have hwrite := stateInv_countWrite h
  rcases onWrite_cases answer s with heq | ⟨hs, -, ⟨-, -, heq⟩ | ⟨-, -, heq⟩ | ⟨-, -, heq⟩ | ⟨-, -, heq⟩⟩ <;> rw [heq]
  · exact h
  · exact stateInv_armExchange hwrite hs
  · exact stateInv_withCall hwrite hs (by simp)
  · exact hwrite
  · exact stateInv_leaveSending hwrite hs (.inr rfl) rfl

/-! The moves of an exchange that waits (R155 to R158). -/

/-- The ends without a decode: `TimedOut` or `ReceiveFailed`, the latter after an overshoot that is reported. -/
theorem stateInv_leaveAwaiting {s : State} (hu : UnitInv s) (hcall : s.call = .none) (hdone : s.done = false)
    {d : SessState} {x : TransmissionState} (hd : d = .timedOut ∨ d = .receiveFailed)
    (hover : s.overshoot = true → s.cfg.overshootReport = .errorReceiveMessage → d = .receiveFailed)
    (htag : tagFits (leaveAwaiting d x s)) : StateInv (leaveAwaiting d x s) := by
  refine stateInv_of_rest ⟨hu.bitcntZero, hu.txFits, hu.rspShown, hu.rspFits, hu.estBound⟩
    ⟨?_, rfl, rfl, hcall, ?_, hover, htag⟩
  · rcases hd with rfl | rfl <;> rfl
  · rcases hd with rfl | rfl <;> simpa using hdone

theorem stateInv_onWatchdog {s : State} (h : StateInv s) : StateInv (onWatchdog s) := by
  rcases onWatchdog_cases s with heq | ⟨hs, -, heq⟩ <;> rw [heq]
  · exact h
  · have hw := h.waitInv hs
    exact stateInv_leaveAwaiting h.unitInv hw.call hw.done (.inl rfl)
      (fun ho hc => absurd hc (hw.overshootFits ho)) rfl

theorem stateInv_onDisconnect {s : State} (h : StateInv s) : StateInv (onDisconnect s) := by
  rcases onDisconnect_cases s with heq | ⟨hs, heq⟩ <;> rw [heq]
  · exact h
  · have hw := h.waitInv hs
    exact stateInv_leaveAwaiting h.unitInv hw.call hw.done (.inr rfl) (fun _ _ => rfl) (.inr rfl)

theorem unitInv_takeFragment {f : List Byte} {e : Word × Bool} {s : State} (h : UnitInv s)
    (he : refineEstimate s.txKind (s.rx ++ f) s.est s.latched = .ok e) : UnitInv (takeFragment f e s) :=
  ⟨h.bitcntZero, h.txFits, h.rspShown, h.rspFits, refineEstimate_bound he h.estBound⟩

/-- The refined estimate is settled on the longer buffer, and no smaller than the provisional one. -/
theorem waitInv_takeFragment {f : List Byte} {e : Word × Bool} {s : State} (h : WaitInv s)
    (he : refineEstimate s.txKind (s.rx ++ f) s.est s.latched = .ok e) : WaitInv (takeFragment f e s) where
  sess := h.sess
  wdArmed := rfl
  subscribed := h.subscribed
  call := h.call
  done := h.done
  overshootFits := h.overshootFits
  tstate := h.tstate
  txValid := h.txValid
  estFloor := refineEstimate_floor he h.estFloor
  estSettled := refineEstimate_settled he

/-- An overshoot ends the exchange, or under `WaitForTimeout` is kept for the watchdog (R143, R155). -/
theorem stateInv_overshootExchange {s : State} (hu : UnitInv s) (hw : WaitInv s) (hrx : s.est.toNat < rxLen s) :
    StateInv (overshootExchange s) := by
  have hflag : UnitInv { s with overshoot := true } :=
    ⟨hu.bitcntZero, hu.txFits, hu.rspShown, hu.rspFits, hu.estBound⟩
  unfold overshootExchange
  split
  case h_1 => exact stateInv_leaveAwaiting hflag hw.call hw.done (.inr rfl) (fun _ _ => rfl) (.inl rfl)
  case h_2 hcfg =>
    obtain ⟨hsess, hwd, hsub, hcall, hdone, -, htag, hvalid, hfloor, hsettled⟩ := hw
    exact stateInv_of_wait hflag
      ⟨hsess, hwd, hsub, hcall, hdone, by simp [hcfg], htag, hvalid, hfloor, hsettled⟩ (.inr ⟨rfl, hrx⟩)

/-- A frame that has come in full ends the exchange, at first with no tag (R155). -/
theorem restInv_enterComplete {s : State} (h : WaitInv s) : RestInv (enterComplete s) where
  ended := rfl
  wdArmed := rfl
  subscribed := rfl
  call := h.call
  doneFits := rfl
  overshootFits := fun ho hc => absurd hc (h.overshootFits ho)
  tagsFit := .inr (.inr h.tstate)

/-- The tag of a completed exchange is that of its decode; beside a codec fault it stays (R156, R159). -/
theorem tagFits_completionOf {s : State} (hs : s.sess = .complete) (h : tagFits s) (d : DecodeResult) :
    tagFits (completionOf d s) := by
  cases d with
  | frame | crcMismatch => simp [tagFits, completionOf, hs]
  | raised => exact h

theorem restInv_completionOf {s : State} (h : RestInv s) (hs : s.sess = .complete) (d : DecodeResult) :
    RestInv (completionOf d s) := by
  have htag := tagFits_completionOf hs h.tagsFit d
  cases d <;> exact ⟨h.ended, h.wdArmed, h.subscribed, h.call, h.doneFits, h.overshootFits, htag⟩

theorem unitInv_enterComplete {s : State} (h : UnitInv s) : UnitInv (enterComplete s) :=
  ⟨h.bitcntZero, h.txFits, h.rspShown, h.rspFits, h.estBound⟩

theorem unitInv_completionOf {s : State} (h : UnitInv s) (d : DecodeResult) : UnitInv (completionOf d s) := by
  cases d <;> exact ⟨h.bitcntZero, h.txFits, h.rspShown, h.rspFits, h.estBound⟩

/-- Completion ends the exchange, decodes `rx`, and tags the result (R155, R156). -/
theorem stateInv_completeExchange {s : State} (hu : UnitInv s) (hw : WaitInv s) {d : DecodeResult}
    (hd : decodeResult s.rx = .ok d) : StateInv (completionOf d (applyDecode d (enterComplete s))) := by
  have hsame := sameSession_applyDecode d (enterComplete s)
  have hunit := unitInv_applyDecode (unitInv_enterComplete hu) hd
  have hrest := hsame.restInv (restInv_enterComplete hw)
  exact stateInv_of_rest (unitInv_completionOf hunit d) (restInv_completionOf hrest hsame.sess d)

/-- A fragment keeps the invariant: the updated state waits on, has overshot, or is decoded. -/
theorem stateInv_onFragment {f : List Byte} {s t : State} (h : StateInv s) (ht : onFragment f s = .ok t) :
    StateInv t := by
  rcases onFragment_eq_ok ht with rfl | ⟨hs, -, e, he, hsettle⟩
  · exact h
  · have hu := unitInv_takeFragment h.unitInv he
    have hw := waitInv_takeFragment (h.waitInv hs) he
    rcases settleFragment_eq_ok hsettle with ⟨hrx, rfl⟩ | ⟨-, d, hd, rfl⟩ | ⟨hrx, rfl⟩
    · exact stateInv_overshootExchange hu hw hrx
    · exact stateInv_completeExchange hu hw hd
    · exact stateInv_of_wait hu hw (.inl hrx)

/-! Reset, and the step. -/

/-- Reset gives the invariant from any state (R36, R200). -/
theorem stateInv_onReset (s : State) : StateInv (onReset s) :=
  stateInv_of_rest ⟨rfl, nofun, rfl, nofun, by simp [onReset, State.reset]⟩ ⟨rfl, rfl, rfl, rfl, rfl, nofun, rfl⟩

theorem stateInv_handle {e : Event} {s t : State} (hs : StateInv s) (h : handle e s = .next t) : StateInv t := by
  cases e with
  | invoke r =>
    obtain ⟨i, hi⟩ := invoke_next h
    exact stateInv_exec hs hi
  | notify answer => cases h; exact stateInv_onNotify hs answer
  | write answer => cases h; exact stateInv_onWrite hs answer
  | fragment => exact stateInv_onFragment hs (outcomeOf_next h)
  | watchdog => cases h; exact stateInv_onWatchdog hs
  | disconnect => cases h; exact stateInv_onDisconnect hs
  | reset => cases h; exact stateInv_onReset s

/-- Settles O48: taking the move off `inbox` keeps the invariant, and so does the handler of every move. -/
theorem everyStepKeepsTheInvariant : Obligations.EveryStepKeepsTheInvariant := by
  intro s t hs h
  rcases step_next h with ⟨-, rfl⟩ | ⟨e, rest, -, hhandle⟩
  · exact hs
  · exact stateInv_handle (stateInv_withInbox hs rest) hhandle

/-- Settles O49: reset from the reset state is the reset state. -/
theorem resetMeetsTheInvariant : Obligations.ResetMeetsTheInvariant :=
  stateInv_onReset State.reset

end Sys2Proof.Machine

namespace Sys2Proof.Machine

/-! Two fragments in a row (R53, R155). -/

/-- The bytes after the third do not enter the estimate (R141). -/
theorem refineEstimate_append (k : RequestKind) {rx : List Byte} (h : 3 ≤ rx.length) (g : List Byte) (est : Word)
    (l : Bool) : refineEstimate k (rx ++ g) est l = refineEstimate k rx est l := by
  cases l with
  | true => simp only [refineEstimate_latched]
  | false =>
    match rx with
    | [] | [_] | [_, _] => simp at h
    | b0 :: b1 :: b2 :: rest => simp only [List.cons_append, refineEstimate_open]

/-- An update on part of the bytes does not change what the update on all of them leaves: the part was too short to
decide, or it decided already. -/
theorem refineEstimate_resume {k : RequestKind} {rx : List Byte} {est : Word} {l : Bool} {e : Word × Bool}
    (h : refineEstimate k rx est l = .ok e) (g : List Byte) :
    refineEstimate k (rx ++ g) e.1 e.2 = refineEstimate k (rx ++ g) est l := by
  rcases Nat.lt_or_ge rx.length 3 with hshort | hlong
  · rw [refineEstimate_short k est l hshort] at h
    cases h
    rfl
  · rw [refineEstimate_append k hlong, refineEstimate_append k hlong, refineEstimate_settled h, h]

theorem takeFragment_takeFragment (f g : List Byte) (e e' : Word × Bool) (s : State) :
    takeFragment g e' (takeFragment f e s) = takeFragment (f ++ g) e' s := by
  simp [takeFragment, setEstimate, restartWatchdog, rxAppend]

/-- While the session waits a fragment is taken and compared (R155). -/
theorem onFragment_waiting {f : List Byte} {s : State} {e : Word × Bool} (hw : WaitInv s)
    (he : refineEstimate s.txKind (s.rx ++ f) s.est s.latched = .ok e) :
    onFragment f s = settleFragment (takeFragment f e s) := by
  obtain ⟨e', he', hstep⟩ := fragmentStep_eq f s
  cases he.symm.trans he'
  rw [onFragment, if_pos ⟨hw.sess, hw.subscribed⟩, hstep]
  rfl

/-- A fragment after one that has been taken is a fragment with the bytes of both. -/
theorem onFragment_takeFragment {f : List Byte} {s : State} {e : Word × Bool} (hw : WaitInv s)
    (he : refineEstimate s.txKind (s.rx ++ f) s.est s.latched = .ok e) (g : List Byte) :
    onFragment g (takeFragment f e s) = onFragment (f ++ g) s := by
  obtain ⟨e', he'⟩ := refineEstimate_ok s.txKind (s.rx ++ f ++ g) s.est s.latched
  have hsecond := (refineEstimate_resume he g).trans he'
  rw [List.append_assoc] at he'
  rw [onFragment_waiting (waitInv_takeFragment hw he) hsecond, onFragment_waiting hw he', takeFragment_takeFragment]

/-- The comparison sets `overshoot` itself where the buffer has overshot. -/
theorem settleFragment_withOvershoot {s : State} (h : s.est.toNat < rxLen s) :
    settleFragment { s with overshoot := true } = settleFragment s := by
  have hmarked : isOvershoot { s with overshoot := true } = true := decide_eq_true h
  have hplain : isOvershoot s = true := decide_eq_true h
  rw [settleFragment, if_pos hmarked, settleFragment, if_pos hplain]
  rfl

/-- After an overshoot no fragment depends on the flag: three bytes have come, so the estimate stands, and the longer
buffer overshoots it too. -/
theorem onFragment_withOvershoot {s : State} (hw : WaitInv s) (h : s.est.toNat < rxLen s)
    (hc : s.cfg.overshootReport ≠ .errorReceiveMessage) (g : List Byte) :
    onFragment g { s with overshoot := true } = onFragment g s := by
  have hlong : 3 ≤ s.rx.length := hw.estFloor.trans h.le
  have he := (refineEstimate_append s.txKind hlong g s.est s.latched).trans hw.estSettled
  have hlonger : s.est.toNat < rxLen (takeFragment g (s.est, s.latched) s) :=
    h.trans_le (by simp [rxLen, takeFragment])
  have hmarked : WaitInv { s with overshoot := true } := { hw with overshootFits := fun _ => hc }
  calc onFragment g { s with overshoot := true }
      = settleFragment { takeFragment g (s.est, s.latched) s with overshoot := true } := onFragment_waiting hmarked he
    _ = settleFragment (takeFragment g (s.est, s.latched) s) := settleFragment_withOvershoot hlonger
    _ = onFragment g s := (onFragment_waiting hw he).symm

/-- A session that still waits after the comparisons is short of the estimate, or has overshot it under
`WaitForTimeout` (R142, R143). -/
theorem settleFragment_waits {s t : State} (h : settleFragment s = .ok t) (ht : t.sess = .awaitingResponse) :
    t = s ∨ (s.est.toNat < rxLen s ∧ s.cfg.overshootReport ≠ .errorReceiveMessage ∧
      t = { s with overshoot := true }) := by
  rcases settleFragment_eq_ok h with ⟨hrx, rfl⟩ | ⟨-, d, -, rfl⟩ | ⟨-, rfl⟩
  · unfold overshootExchange at ht ⊢
    split at ht
    case h_1 => simp at ht
    case h_2 hc => exact .inr ⟨hrx, by simp [hc], rfl⟩
  · have hsess : (applyDecode d (enterComplete s)).sess = .complete := (sameSession_applyDecode d _).sess
    cases d <;> simp [completionOf, hsess] at ht
  · exact .inl rfl

/-- Settles O47: the session waits after the first fragment either as it was with the fragment taken, or with the
overshoot marked besides, and no later fragment depends on that mark. -/
theorem fragmentBoundariesDoNotMatter : Obligations.FragmentBoundariesDoNotMatter := by
  intro s t f g hs h ht
  have hsess : s.sess = .awaitingResponse := by
    rcases onFragment_eq_ok h with rfl | ⟨hsess, -⟩
    · exact ht
    · exact hsess
  have hw := hs.waitInv hsess
  obtain ⟨e, he⟩ := refineEstimate_ok s.txKind (s.rx ++ f) s.est s.latched
  rw [onFragment_waiting hw he] at h
  rcases settleFragment_waits h ht with rfl | ⟨hrx, hc, rfl⟩
  · exact onFragment_takeFragment hw he g
  · rw [onFragment_withOvershoot (waitInv_takeFragment hw he) hrx hc, onFragment_takeFragment hw he]

end Sys2Proof.Machine

namespace Sys2Proof.Machine

/-! The constant tables (R75 to R77, R79): each code column of the function table against its inverse. -/

@[simp] theorem functionOfCode_requestCode (t : FunctionType) : functionOfCode (requestCode t) = some t := by
  cases t <;> rfl

theorem requestCode_of_functionOfCode {c : Byte} {t : FunctionType} (h : functionOfCode c = some t) :
    requestCode t = c := by
  unfold functionOfCode at h
  split at h <;> cases h
  all_goals exact (BitVec.eq_of_toNat_eq ‹c.toNat = _›).symm

theorem functionOfCode_eq_some_iff {c : Byte} {t : FunctionType} :
    functionOfCode c = some t ↔ c = requestCode t :=
  ⟨fun h => (requestCode_of_functionOfCode h).symm, fun h => h ▸ functionOfCode_requestCode t⟩

theorem functionOfCode_isSome_iff (c : Byte) :
    (functionOfCode c).isSome = true ↔ 1 ≤ c.toNat ∧ c.toNat ≤ 6 := by
  constructor
  · intro h
    obtain ⟨t, ht⟩ := Option.isSome_iff_exists.mp h
    obtain rfl := functionOfCode_eq_some_iff.mp ht
    cases t <;> decide
  · rintro ⟨hmin, hmax⟩
    unfold functionOfCode
    interval_cases c.toNat <;> rfl

@[simp] theorem functionOfException_requestCode (t : FunctionType) : functionOfException (requestCode t) = none := by
  cases t <;> rfl

/-- The exception function codes are those above 128 that `FT` maps after the subtraction (R76). -/
theorem functionOfException_eq_some_iff {c : Byte} {t : FunctionType} :
    functionOfException c = some t ↔ c = exceptionCode t := by
  unfold functionOfException exceptionCode
  split
  case isTrue => rw [functionOfCode_eq_some_iff, sub_eq_iff_eq_add]
  case isFalse hlow =>
    have habove : Config.excOffset < requestCode t + Config.excOffset := by cases t <;> decide
    simp only [reduceCtorEq, false_iff]
    rintro rfl
    exact hlow habove

@[simp] theorem functionOfException_exceptionCode (t : FunctionType) :
    functionOfException (exceptionCode t) = some t :=
  functionOfException_eq_some_iff.mpr rfl

theorem functionOfException_isSome_iff (c : Byte) :
    (functionOfException c).isSome = true ↔ 129 ≤ c.toNat ∧ c.toNat ≤ 134 := by
  unfold functionOfException
  split
  case isTrue habove =>
    rw [functionOfCode_isSome_iff]
    simp only [Config.excOffset] at *
    bv_omega
  case isFalse hlow =>
    simp only [Option.isSome_none, Bool.false_eq_true, false_iff, Config.excOffset] at *
    bv_omega

/-- The response format of a request code is that of its function's class (R79). -/
theorem classify_requestCode (t : FunctionType) :
    classify (requestCode t) = if isWrite t then some (.write t) else some (.read t) := by
  simp [classify]

@[simp] theorem classify_exceptionCode (t : FunctionType) : classify (exceptionCode t) = some (.exception t) := by
  simp [classify]

/-- Every value of byte 1 outside the two code columns is unmapped (R79, R80(a)). -/
theorem classify_eq_none {c : Byte} (hreq : ∀ t, c ≠ requestCode t) (hexc : ∀ t, c ≠ exceptionCode t) :
    classify c = none := by
  have hcode : functionOfCode c = none :=
    Option.eq_none_iff_forall_ne_some.mpr fun t h => hreq t (functionOfCode_eq_some_iff.mp h)
  have hexcept : functionOfException c = none :=
    Option.eq_none_iff_forall_ne_some.mpr fun t h => hexc t (functionOfException_eq_some_iff.mp h)
  simp [classify, hcode, hexcept]

/-- Settles O6: both mappings by their inverses, class, kind and bit 7 by the six functions. -/
theorem functionTableIsABijection : Obligations.FunctionTableIsABijection := by
  refine ⟨rfl, functionOfCode_requestCode, fun _ _ => requestCode_of_functionOfCode, functionOfCode_isSome_iff,
    requestKind_eq, fun t => ?_, fun t => ?_, fun t => ?_, functionOfException_exceptionCode,
    fun _ _ h => (functionOfException_eq_some_iff.mp h).symm, functionOfException_isSome_iff⟩
  · rw [classify_requestCode]
    cases t <;> rfl
  · cases t <;> rfl
  · cases t <;> rfl

/-- Settles O7: a code of either column is classified as its function's, and any other byte is none of the twelve. -/
theorem byteOneIsClassified : Obligations.ByteOneIsClassified := by
  intro c
  by_cases hreq : ∃ t, c = requestCode t
  · obtain ⟨t, rfl⟩ := hreq
    cases t <;> rfl
  by_cases hexc : ∃ t, c = exceptionCode t
  · obtain ⟨t, rfl⟩ := hexc
    cases t <;> rfl
  rw [not_exists] at hreq hexc
  refine (classify_eq_none hreq hexc).trans (Eq.symm ?_)
  exact (if_neg (hreq .readCoil)).trans <| (if_neg (hreq .readDigitalInput)).trans <|
    (if_neg (hreq .readHoldingRegister)).trans <| (if_neg (hreq .readInputRegister)).trans <|
    (if_neg (hreq .writeCoil)).trans <| (if_neg (hreq .writeHoldingRegister)).trans <|
    (if_neg (hexc .readCoil)).trans <| (if_neg (hexc .readDigitalInput)).trans <|
    (if_neg (hexc .readHoldingRegister)).trans <| (if_neg (hexc .readInputRegister)).trans <|
    (if_neg (hexc .writeCoil)).trans <| if_neg (hexc .writeHoldingRegister)

/-- The code of an entry of the exception-code table (R77). -/
def entryCode (x : ExcEntry) : Nat :=
  match x with
  | .code1 => 1
  | .code2 => 2
  | .code3 => 3
  | .code4 => 4
  | .code5 => 5
  | .code6 => 6
  | .code7 => 7
  | .code8 => 8
  | .code10 => 10
  | .code11 => 11

theorem toNat_of_exceptionEntry {e : Byte} {x : ExcEntry} (h : exceptionEntry e = some x) :
    e.toNat = entryCode x := by
  unfold exceptionEntry at h
  split at h <;> cases h
  all_goals assumption

theorem exceptionEntry_isSome_iff (e : Byte) :
    (exceptionEntry e).isSome = true ↔ (1 ≤ e.toNat ∧ e.toNat ≤ 8) ∨ e.toNat = 10 ∨ e.toNat = 11 := by
  constructor
  · intro h
    obtain ⟨x, hx⟩ := Option.isSome_iff_exists.mp h
    rw [toNat_of_exceptionEntry hx]
    cases x <;> decide
  · rintro (⟨hmin, hmax⟩ | hten | heleven) <;> unfold exceptionEntry
    · interval_cases e.toNat <;> rfl
    · rw [hten]; rfl
    · rw [heleven]; rfl

/-- Settles O8: an entry determines its code, so no two codes share one. -/
theorem exceptionTableHasTenEntries : Obligations.ExceptionTableHasTenEntries := by
  refine ⟨exceptionEntry_isSome_iff, fun e e' hsome heq => ?_, rfl⟩
  obtain ⟨x, hx⟩ := Option.isSome_iff_exists.mp hsome
  exact BitVec.eq_of_toNat_eq ((toNat_of_exceptionEntry hx).trans (toNat_of_exceptionEntry (heq ▸ hx)).symm)

end Sys2Proof.Machine

namespace Sys2Proof.Machine

/-! The decoder on the bytes of each format (R71 to R74, R82), and what a frame that decodes must be. -/

@[simp] theorem functionOfNumber_functionNumber (fn : FnSel) : functionOfNumber (functionNumber fn) = fn := by
  cases fn with
  | fn t => cases t <;> rfl
  | unmapped6 | unmapped7 => rfl

theorem decode_requestBytes (t : FunctionType) (a r0 r1 t0 t1 : Byte) :
    decode (.requestFrame (requestBytes t a r0 r1 t0 t1)) = .ok (requestRow t a r0 r1 t0 t1) := by
  simp [decode, decodeRequest, requestBytes, withCrc, crcBytes]

theorem decode_exceptionBytes (t : FunctionType) (a e c d : Byte) :
    decode (.responseFrame (exceptionBytes t a e c d)) = .ok (exceptionRow t a e c d) := by
  simp [decode, decodeResponse, exceptionBytes]

/-- A response that begins with a request code is read by its function (R79). -/
theorem decode_requestCode (t : FunctionType) (a : Byte) (rest : List Byte) :
    decode (.responseFrame (a :: requestCode t :: rest)) = responseRow t a rest := by
  simp [decode, decodeResponse]

/-- The counted bytes are the data, and the two after them the CRC (R72). -/
theorem readRow_counted (mk : Byte → Byte → List Byte → Byte → Byte → Instr) (a : Byte) {n : Byte}
    {data : List Byte} (h : data.length = n.toNat) (c d : Byte) :
    responseRow.readRow a (n :: (data ++ [c, d])) mk = .ok (mk a n data c d) := by
  simp [responseRow.readRow, ← h]

/-- A read response decodes to the row that its function gives it. -/
theorem decode_readBytes {t : FunctionType} {mk : Byte → Byte → List Byte → Byte → Byte → Instr}
    (hrow : ∀ a rest, responseRow t a rest = responseRow.readRow a rest mk) {n : Byte} {data : List Byte}
    (h : readDataFits n data = true) (a c d : Byte) :
    decode (.responseFrame (readBytes t a n data c d)) = .ok (mk a n data c d) :=
  calc decode (.responseFrame (readBytes t a n data c d))
      = responseRow t a (n :: (data ++ [c, d])) := decode_requestCode t a _
    _ = responseRow.readRow a (n :: (data ++ [c, d])) mk := hrow a _
    _ = .ok (mk a n data c d) := readRow_counted mk a (beq_iff_eq.mp h) c d

/-- Settles O1: each format reads back its own bytes, and the number of a functionType reads back the type. -/
theorem decodeOfEncodeIsTheInstruction : Obligations.DecodeOfEncodeIsTheInstruction := by
  intro i hi
  cases i with
  | reqReadCoil | reqReadDigitalInput | reqReadHoldingRegister | reqReadInputRegister | reqWriteCoil
  | reqWriteHoldingRegister => exact decode_requestBytes _ _ _ _ _ _
  | rspReadCoil | rspReadDigitalInput | rspReadHoldingRegister | rspReadInputRegister =>
    exact decode_readBytes (fun _ _ => rfl) hi _ _ _
  | rspWriteCoil | rspWriteHoldingRegister => exact decode_requestCode _ _ _
  | rspExcReadCoil | rspExcReadDigitalInput | rspExcReadHoldingRegister | rspExcReadInputRegister
  | rspExcWriteCoil | rspExcWriteHoldingRegister => exact decode_exceptionBytes _ _ _ _ _
  | encode | execute => simp [encode, decode, decodeCommand, requestLines]
  | crcInit | crcByte | crcOut | crc16 | decode | estArm | estUpdate => rfl

/- A CRC of six bytes is 48 shift steps deep. -/
set_option maxRecDepth 4000 in
/-- Settles O4: the decoder runs on each word, and on the request's CRC (R115). -/
theorem specWordsDecode : Obligations.SpecWordsDecode :=
  ⟨by decide, rfl, rfl, rfl, rfl, rfl⟩

/-- A request frame that decodes is the frame of a row (R71). -/
theorem decodeRequest_eq_ok {w : List Byte} {i : Instr} (h : decodeRequest w = .ok i) :
    ∃ t a r0 r1 t0 t1, w = requestBytes t a r0 r1 t0 t1 ∧ i = requestRow t a r0 r1 t0 t1 := by
  unfold decodeRequest at h
  split at h
  case h_1 | h_2 => cases h
  case h_3 a fc rest =>
    split at h
    case h_1 => cases h
    case h_2 t ht =>
      obtain rfl := requestCode_of_functionOfCode ht
      split at h
      case h_1 r0 r1 t0 t1 c d =>
        split at h <;> cases h
        case isTrue hcrc =>
          exact ⟨t, a, r0, r1, t0, t1, by simp [requestBytes, withCrc, hcrc], rfl⟩
      case h_2 => split at h <;> cases h

/-- A read response that decodes holds its counted data and two bytes more (R72). -/
theorem readRow_eq_ok {a : Byte} {rest : List Byte} {mk : Byte → Byte → List Byte → Byte → Byte → Instr}
    {i : Instr} (h : responseRow.readRow a rest mk = .ok i) :
    ∃ n data c d, rest = n :: (data ++ [c, d]) ∧ readDataFits n data = true ∧ i = mk a n data c d := by
  unfold responseRow.readRow at h
  split at h
  case h_1 => cases h
  case h_2 n body =>
    split at h
    case h_1 c d hdrop =>
      cases h
      have hlen : body.length - n.toNat = 2 := by simpa using congrArg List.length hdrop
      have hfits : readDataFits n (body.take n.toNat) = true := by simp [readDataFits]; omega
      exact ⟨n, body.take n.toNat, c, d, by rw [← hdrop, List.take_append_drop], hfits, rfl⟩
    case h_2 => split at h <;> cases h

/-- A response row of a request code is well formed and its encoding has the code and the bytes read (R72, R73). -/
theorem responseRow_eq_ok {t : FunctionType} {a : Byte} {rest : List Byte} {i : Instr}
    (h : responseRow t a rest = .ok i) :
    encode i = .responseFrame (a :: requestCode t :: rest) ∧ wellFormed i = true := by
  cases t with
  | readCoil | readDigitalInput | readHoldingRegister | readInputRegister =>
    obtain ⟨n, data, c, d, rfl, hfits, rfl⟩ := readRow_eq_ok h
    exact ⟨rfl, hfits⟩
  | writeCoil | writeHoldingRegister =>
    simp only [responseRow] at h
    split at h
    · cases h; exact ⟨rfl, rfl⟩
    · split at h <;> cases h

theorem encode_exceptionRow (t : FunctionType) (a e c d : Byte) :
    encode (exceptionRow t a e c d) = .responseFrame (exceptionBytes t a e c d) := by
  cases t <;> rfl

theorem wellFormed_exceptionRow (t : FunctionType) (a e c d : Byte) : wellFormed (exceptionRow t a e c d) = true := by
  cases t <;> rfl

theorem encode_requestRow (t : FunctionType) (a r0 r1 t0 t1 : Byte) :
    encode (requestRow t a r0 r1 t0 t1) = .requestFrame (requestBytes t a r0 r1 t0 t1) := by
  cases t <;> rfl

theorem wellFormed_requestRow (t : FunctionType) (a r0 r1 t0 t1 : Byte) :
    wellFormed (requestRow t a r0 r1 t0 t1) = true := by
  cases t <;> rfl

/-- A response frame that decodes is the encoding of a well-formed row (R72 to R74). -/
theorem decodeResponse_eq_ok {w : List Byte} {i : Instr} (h : decodeResponse w = .ok i) :
    encode i = .responseFrame w ∧ wellFormed i = true := by
  unfold decodeResponse at h
  split at h
  case h_1 | h_2 => cases h
  case h_3 a fc rest =>
    split at h
    case h_1 t ht =>
      obtain rfl := functionOfException_eq_some_iff.mp ht
      split at h
      case h_1 e c d =>
        cases h
        exact ⟨encode_exceptionRow t a e c d, wellFormed_exceptionRow t a e c d⟩
      case h_2 => split at h <;> cases h
    case h_2 =>
      split at h
      case h_1 t ht =>
        obtain rfl := requestCode_of_functionOfCode ht
        exact responseRow_eq_ok h
      case h_2 => cases h

/-- Settles O2: what either direction decodes to is a row whose encoding is the frame. -/
theorem encodeOfDecodedFrameIsTheFrame : Obligations.EncodeOfDecodedFrameIsTheFrame := by
  refine fun w i => ⟨fun h => ?_, fun h => (decodeResponse_eq_ok h).1⟩
  obtain ⟨t, a, r0, r1, t0, t1, rfl, rfl⟩ := decodeRequest_eq_ok h
  exact encode_requestRow t a r0 r1 t0 t1

/-- The operations have no relation between their operands. -/
theorem decodeCommand_wellFormed {op : BitVec 4} {x : OperandLines} {i : Instr} (h : decodeCommand op x = .ok i) :
    wellFormed i = true := by
  unfold decodeCommand at h
  split at h <;> cases h <;> rfl

/-- Settles O3: a command, a request row and an exception or write row are well formed as they stand, and a read row
has the data that its count says. -/
theorem decodedInstructionIsWellFormed : Obligations.DecodedInstructionIsWellFormed := by
  intro r i h
  cases r with
  | command => exact decodeCommand_wellFormed h
  | requestFrame =>
    obtain ⟨t, a, r0, r1, t0, t1, -, rfl⟩ := decodeRequest_eq_ok h
    exact wellFormed_requestRow t a r0 r1 t0 t1
  | responseFrame => exact (decodeResponse_eq_ok h).2

theorem decodeCommand_reserved {op : BitVec 4} (h : 9 ≤ op.toNat) (x : OperandLines) :
    decodeCommand op x = .error (.reservedOperation op) := by
  unfold decodeCommand
  split
  case h_10 => rfl
  all_goals omega

/-- Settles O5: the step hands the invocation to the decoder, which has no operation for the code. -/
theorem reservedSelectCodesAreRefused : Obligations.ReservedSelectCodesAreRefused := by
  intro s op x rest hop hinbox
  rw [step_cons hinbox]
  simp [handle, invoke, decode, decodeCommand_reserved hop, onUndecodable]

end Sys2Proof.Machine

namespace Sys2Proof.Machine

/-! The frame rows of the table (log 3): a `REQ.*` row is `ENCODE` of its operands, an `RSP_*` row is `DECODE` of its
bytes, which are a payload and its CRC when the row's last bytes are. -/

/-- Settles O17: each row is `ENCODE` of its own function. -/
theorem requestRowsBuildTheirFrames : Obligations.RequestRowsBuildTheirFrames := by
  intro a r0 r1 t0 t1 s hs
  have built := fun t => encodeBuildsTheRequest a r0 r1 t0 t1 t s hs
  exact ⟨built .readCoil, built .readDigitalInput, built .readHoldingRegister, built .readInputRegister,
    built .writeCoil, built .writeHoldingRegister⟩

/-- `DECODE` of a payload with its CRC, once the checks before the CRC have passed, exposes the frame (R125, R127). -/
theorem decodeUnit_withCrc {p : List Byte} {cl : RspClass} {r : Rsp} (hcheck : checkFrame (withCrc p) = .ok (.ok cl))
    (hfill : fillRsp cl (withCrc p) = .ok r) (s : State) :
    decodeUnit (withCrc p) s = .ok (applyDecode (.frame r (crc16 p)) s) := by
  have hexact : decodeExact cl (withCrc p) = .ok (.frame r (crc16 p)) := by
    rw [withCrc] at hfill ⊢
    rw [crcBytes, decodeExact_split, if_pos, ← crcBytes, hfill]
    · rfl
    · rfl
  simp [decodeUnit, decodeResult, hcheck, hexact]

/-- A row whose `DECODE` exposes a frame completes with it, with no exchange in flight. -/
theorem callerOp_decodeUnit_withCrc {p : List Byte} {cl : RspClass} {r : Rsp} {s : State} (hs : inFlight s = false)
    (hcheck : checkFrame (withCrc p) = .ok (.ok cl)) (hfill : fillRsp cl (withCrc p) = .ok r) :
    callerOp s (decodeUnit (withCrc p) s) = .next (applyDecode (.frame r (crc16 p)) s) := by
  rw [decodeUnit_withCrc hcheck hfill, callerOp_ready hs]

theorem checkFrame_read {t : FunctionType} (ht : isWrite t = false) (a : Byte) {n : Byte} {data : List Byte}
    (h : data.length = n.toNat) : checkFrame (withCrc (a :: requestCode t :: n :: data)) = .ok (.ok (.read t)) := by
  simp [withCrc, checkFrame_two, classify_requestCode, ht, exactLength, h, Nat.add_comm 3]

theorem checkFrame_write {t : FunctionType} (ht : isWrite t = true) (a r0 r1 v0 v1 : Byte) :
    checkFrame (withCrc [a, requestCode t, r0, r1, v0, v1]) = .ok (.ok (.write t)) := by
  simp [withCrc, checkFrame_two, classify_requestCode, ht, exactLength]

theorem checkFrame_exception (t : FunctionType) (a e : Byte) :
    checkFrame (withCrc [a, exceptionCode t, e]) = .ok (.ok (.exception t)) := by
  simp [withCrc, checkFrame_two, exactLength]

/-- Settles O26: a payload with its counted data and its CRC passes the checks of the read branch. -/
theorem readRowsFillTheResponse : Obligations.ReadRowsFillTheResponse := by
  intro a n data s hs hdata
  have shown := fun t (ht : isWrite t = false) =>
    callerOp_decodeUnit_withCrc hs (checkFrame_read ht a hdata) (fillRsp_read t a _ n data _ _ hdata)
  exact ⟨shown .readCoil rfl, shown .readDigitalInput rfl, shown .readHoldingRegister rfl,
    shown .readInputRegister rfl⟩

/-- Settles O27: a payload with its CRC passes the checks of the write branch. -/
theorem writeRowsFillTheResponse : Obligations.WriteRowsFillTheResponse := by
  intro a r0 r1 v0 v1 s hs
  have shown := fun t (ht : isWrite t = true) =>
    callerOp_decodeUnit_withCrc hs (checkFrame_write ht a r0 r1 v0 v1) (fillRsp_write t a _ r0 r1 v0 v1 _ _)
  exact ⟨shown .writeCoil rfl, shown .writeHoldingRegister rfl⟩

/-- Settles O28: a payload with its CRC passes the checks of the exception branch. -/
theorem exceptionRowsFillTheResponse : Obligations.ExceptionRowsFillTheResponse := by
  intro a e s hs
  have shown := fun t =>
    callerOp_decodeUnit_withCrc hs (checkFrame_exception t a e) (fillRsp_exception t a _ e _ _)
  exact ⟨shown .readCoil, shown .readDigitalInput, shown .readHoldingRegister, shown .readInputRegister,
    shown .writeCoil, shown .writeHoldingRegister⟩

end Sys2Proof.Machine

namespace Sys2Proof.Machine

/-! The CRC unit: a byte is eight iterated shifts and a sequence a left fold (R102, R104), and a word's own two bytes,
fed low byte first, shift it out to zero (R105(d)). -/

theorem crcShifts_eq_iterate (n : Nat) (c : Word) : crcShifts n c = Nat.iterate crcShift n c := by
  induction n generalizing c with
  | zero => rfl
  | succ k ih => exact ih (crcShift c)

theorem crcStep_eq_iterate (c : Word) (b : Byte) :
    crcStep c b = Nat.iterate crcShift 8 (c ^^^ b.setWidth 16) :=
  crcShifts_eq_iterate 8 _

theorem crcFeed_eq_foldl (c : Word) (bytes : List Byte) : crcFeed c bytes = bytes.foldl crcStep c := by
  induction bytes generalizing c with
  | nil => rfl
  | cons b rest ih => exact ih (crcStep c b)

/-- Feeding in pieces continues from where the last piece left the register (R105(b)). -/
theorem crcFeed_append (c : Word) (p q : List Byte) : crcFeed c (p ++ q) = crcFeed (crcFeed c p) q := by
  simp only [crcFeed_eq_foldl, List.foldl_append]

/-- A shift that drops a zero does not XOR (R102). -/
theorem crcShift_of_bit_zero {c : Word} (h : c.getLsbD 0 = false) : crcShift c = c >>> 1 := by
  rw [crcShift, h, if_neg Bool.false_ne_true]

/-- While the bits shifted out are zero, the register is only shifted. -/
theorem crcShifts_of_low_bits_zero {n : Nat} {c : Word} (h : ∀ i < n, c.getLsbD i = false) :
    crcShifts n c = c >>> n := by
  induction n generalizing c with
  | zero => simp [crcShifts]
  | succ k ih =>
    have hrest : ∀ i < k, (c >>> 1).getLsbD i = false := fun i hi => by
      rw [BitVec.getLsbD_ushiftRight]
      exact h (1 + i) (by omega)
    calc crcShifts (k + 1) c
        = crcShifts k (c >>> 1) := by rw [crcShifts, crcShift_of_bit_zero (h 0 (by omega))]
      _ = (c >>> 1) >>> k := ih hrest
      _ = c >>> (k + 1) := by rw [Nat.add_comm, BitVec.shiftRight_add]

/-- A byte equal to the low byte of the register cancels it, and leaves the high byte. -/
theorem crcStep_lowByte (c : Word) : crcStep c (lowByte c) = (highByte c).setWidth 16 := by
  have hlow : ∀ i < 8, (c ^^^ (lowByte c).setWidth 16).getLsbD i = false := fun i hi => by
    simp [lowByte, hi, show i < 16 by omega]
  rw [crcStep, Config.crcBitsPerByte, crcShifts_of_low_bits_zero hlow]
  apply BitVec.eq_of_getLsbD_eq
  intro i hi
  have hbit : c.getLsbD (8 + i) = true → i < 8 := fun h => by
    have := BitVec.lt_of_getLsbD h
    omega
  simpa [lowByte, highByte, hi] using hbit

/-- A byte equal to the whole register leaves zero. -/
theorem crcStep_self (b : Byte) : crcStep (b.setWidth 16) b = 0#16 := by
  rw [crcStep, BitVec.xor_self, crcShifts_of_low_bits_zero] <;> simp

/-- The two bytes of the register, low byte first, leave zero in it. -/
theorem crcFeed_crcBytes (c : Word) : crcFeed c (crcBytes c) = 0#16 := by
  simp only [crcBytes, crcFeed_cons, crcFeed_nil, crcStep_lowByte, crcStep_self]

/-- Settles O13: after the payload the register holds the CRC whose two bytes come next. -/
theorem frameWithItsCrcHasZeroResidue : Obligations.FrameWithItsCrcHasZeroResidue := by
  intro p
  rw [withCrc, crc16_eq_feed, crcFeed_append, ← crc16_eq_feed, crcFeed_crcBytes]

/-- Settles O12: the CRC of a sequence is the fold, which the operation leaves in `crc` and returns. -/
theorem crc16FoldsTheBytesFromTheSeed : Obligations.Crc16FoldsTheBytesFromTheSeed := by
  refine ⟨fun x => rfl, crcStep_eq_iterate, fun bytes s hs => ?_⟩
  have hfold : crc16 bytes = bytes.foldl crcStep 0xFFFF#16 := crcFeed_eq_foldl _ bytes
  rw [← hfold]
  exact callerOp_ready hs

/-- Settles O9: with no exchange in flight the operation writes the seed. -/
theorem crcInitLoadsTheSeed : Obligations.CrcInitLoadsTheSeed :=
  ⟨fun _ => rfl, fun _ hs => ⟨.nothing, callerOp_ready hs⟩⟩

/-- Settles O10: with no exchange in flight the operation writes the step, which is eight iterated shifts. -/
theorem crcByteRunsEightShiftSteps : Obligations.CrcByteRunsEightShiftSteps := by
  refine ⟨fun x => rfl, fun c => rfl, fun b s hs => ⟨.nothing, ?_⟩⟩
  rw [← crcStep_eq_iterate]
  exact callerOp_ready hs

/-- Settles O11: with no exchange in flight the operation returns the two bytes and writes nothing else. -/
theorem crcOutEmitsLowByteFirst : Obligations.CrcOutEmitsLowByteFirst :=
  ⟨fun _ => rfl, fun _ hs => callerOp_ready hs⟩

end Sys2Proof.Machine

namespace Sys2Proof.Machine

/-! The laws of `ENCODE` (R113): an encoded request is a frame of R71, whose laws are those of its function's code and of
its CRC. -/

theorem requestCode_range (t : FunctionType) : 1 ≤ (requestCode t).toNat ∧ (requestCode t).toNat ≤ 6 := by
  rw [← functionOfCode_isSome_iff, functionOfCode_requestCode, Option.isSome_some]

/-- The kind of a request can be read off its function code (R113(d)). -/
theorem requestKind_eq_write_iff (t : FunctionType) :
    requestKind t = .requestWrite ↔ requestCode t = 5#8 ∨ requestCode t = 6#8 := by
  cases t <;> decide

/-- `ENCODE` that leaves `txValid` set has written a request frame; its faults clear the flag. -/
theorem exec_encode_txValid {a : Byte} {fn : FnSel} {addr tail : List Byte} {s u : State}
    (h : exec (.encode a fn addr tail) s = .next u) (hvalid : u.txValid = true) :
    ∃ t r0 r1 t0 t1, u = writeTx t (requestFrame t a r0 r1 t0 t1) (loadRequest a fn addr tail s) := by
  have hanswer : encodeWith a fn addr tail s = .ok u := (callerOp_next h).2
  rcases encodeWith_eq_ok hanswer with hframe | ⟨c, rfl⟩
  · exact hframe
  · cases hvalid

/-- Settles O18: the frame written is six bytes and their CRC, and its byte 1 is the code of its function. -/
theorem encodedRequestObeysItsLaws : Obligations.EncodedRequestObeysItsLaws := by
  intro a fn addr tail s u h hvalid
  obtain ⟨t, r0, r1, t0, t1, rfl⟩ := exec_encode_txValid h hvalid
  refine ⟨rfl, ?_, requestCode_range t, requestKind_eq_write_iff t⟩
  rw [writeTx_tx, txBytes_requestFrame]
  exact frameWithItsCrcHasZeroResidue _

end Sys2Proof.Machine

namespace Sys2Proof.Machine

/-! `DECODE` as an operation of the caller (R127): the answer is that of `decodeResult`, which the checks before the CRC
and the CRC itself decide. -/

/-- With no exchange in flight `DECODE` writes its outcome (R120, R160). -/
theorem execDecode_of_result {w : List Byte} {d : DecodeResult} {s : State} (hs : inFlight s = false)
    (hd : decodeResult w = .ok d) : exec (.decode w) s = .next (applyDecode d s) := by
  have hunit : decodeUnit w s = .ok (applyDecode d s) := by simp [decodeUnit, hd]
  change callerOp s (decodeUnit w s) = _
  rw [hunit, callerOp_ready hs]

/-- Settles O29: a response row and `DECODE` of its bytes are the same operation of the caller. -/
theorem responseRowRunsDecodeOfItsBytes : Obligations.ResponseRowRunsDecodeOfItsBytes := by
  intro i w s h
  cases i with
  | rspReadCoil | rspReadDigitalInput | rspReadHoldingRegister | rspReadInputRegister | rspWriteCoil
  | rspWriteHoldingRegister | rspExcReadCoil | rspExcReadDigitalInput | rspExcReadHoldingRegister
  | rspExcReadInputRegister | rspExcWriteCoil | rspExcWriteHoldingRegister => cases h; rfl
  | reqReadCoil | reqReadDigitalInput | reqReadHoldingRegister | reqReadInputRegister | reqWriteCoil
  | reqWriteHoldingRegister | crcInit | crcByte | crcOut | crc16 | encode | decode | estArm | estUpdate
  | execute => cases h

/-- Settles O20: a payload with its counted data and its CRC passes the checks of the read branch. -/
theorem readResponseDecodes : Obligations.ReadResponseDecodes := by
  intro a n data t s hs ht hdata
  exact callerOp_decodeUnit_withCrc hs (checkFrame_read ht a hdata) (fillRsp_read t a _ n data _ _ hdata)

/-- Settles O21: six bytes with their CRC pass the checks of the write branch. -/
theorem writeResponseDecodes : Obligations.WriteResponseDecodes := by
  intro a r0 r1 v0 v1 t s hs ht
  exact callerOp_decodeUnit_withCrc hs (checkFrame_write ht a r0 r1 v0 v1) (fillRsp_write t a _ r0 r1 v0 v1 _ _)

/-- Settles O22: three bytes with their CRC pass the checks of the exception branch, whatever the exception code. -/
theorem exceptionResponseDecodes : Obligations.ExceptionResponseDecodes := by
  intro a e t s hs
  exact callerOp_decodeUnit_withCrc hs (checkFrame_exception t a e) (fillRsp_exception t a _ e _ _)

/-- Settles O19: the frame that `ENCODE` builds for a write function is the write response with the same fields, and
`ENCODE` leaves no exchange in flight. -/
theorem encodedWriteRequestEchoes : Obligations.EncodedWriteRequestEchoes := by
  intro a r0 r1 t0 t1 t s hs ht
  have hwrite : isWrite t = true := by rcases ht with rfl | rfl <;> rfl
  have hencode := encodeBuildsTheRequest a r0 r1 t0 t1 t s hs
  exact ⟨_, _, _, hencode, writeResponseDecodes a r0 r1 t0 t1 t _ hs hwrite, rfl, rfl, rfl, rfl, rfl, rfl⟩

/-- A frame that `DECODE` exposes holds the whole buffer (R27). -/
theorem wire_of_decodeResult {w : List Byte} {r : Rsp} {c : Word} (h : decodeResult w = .ok (.frame r c)) :
    r.wire = w := by
  rcases decodeResult_cases w with ⟨_, -, hd⟩ | ⟨_, _, _, -, -, hd⟩ | ⟨_, _, -, hd, hwire, -⟩ <;>
    cases h.symm.trans hd
  exact hwire

/-- Settles O25: each of the three outcomes writes the registers of the decoder and of the CRC unit only, and the one
that exposes a frame exposes a correct one. -/
theorem decodeAnswersOnEveryBuffer : Obligations.DecodeAnswersOnEveryBuffer := by
  intro w s hs
  obtain ⟨d, hd⟩ := decodeResult_ok w
  refine ⟨_, execDecode_of_result hs hd, ?_⟩
  cases d with
  | frame r c =>
    refine ⟨rfl, ?_, rfl⟩
    rintro _ ⟨⟩
    exact ⟨rspCorrect_of_decodeResult hd, wire_of_decodeResult hd⟩
  | crcMismatch c => exact ⟨rfl, nofun, rfl⟩
  | raised f => exact ⟨rfl, nofun, rfl⟩

/-! The codec faults of `DECODE` (R124, R126), each by the check that raises it. -/

theorem exactLength_short {w : List Byte} {need : Nat} (h : w.length < need) (cl : RspClass) :
    exactLength w need cl = .error (.malformedFrame .tooShort) := by
  simp [exactLength, h]

theorem exactLength_long {w : List Byte} {need : Nat} (h : need < w.length) (cl : RspClass) :
    exactLength w need cl = .error (.malformedFrame .tooLong) := by
  simp [exactLength, h, Nat.not_lt.mpr h.le]

/-- What a check before the CRC raises, `DECODE` raises. -/
theorem execDecode_of_checkFrame_error {w : List Byte} {f : CodecFault} {s : State} (hs : inFlight s = false)
    (h : checkFrame w = .ok (.error f)) : exec (.decode w) s = .next (raiseCodec .dec f s) :=
  execDecode_of_result (d := .raised f) hs (by simp [decodeResult, h])

/-- A buffer that reaches the exact-length check of its kind and is not of that length raises `MalformedFrame`. -/
theorem execDecode_of_exactLength {w : List Byte} {need : Nat} {cl : RspClass} {s : State} (hs : inFlight s = false)
    (h : checkFrame w = .ok (exactLength w need cl)) :
    (w.length < need → exec (.decode w) s = .next (raiseCodec .dec (.malformedFrame .tooShort) s)) ∧
    (need < w.length → exec (.decode w) s = .next (raiseCodec .dec (.malformedFrame .tooLong) s)) := by
  constructor
  · intro hlen
    rw [exactLength_short hlen] at h
    exact execDecode_of_checkFrame_error hs h
  · intro hlen
    rw [exactLength_long hlen] at h
    exact execDecode_of_checkFrame_error hs h

/-- Settles O24: with two bytes there is a class, or none, and it selects the check that raises the fault. -/
theorem decodeFaultsAreRecorded : Obligations.DecodeFaultsAreRecorded := by
  intro w s hs
  refine ⟨fun hlen => execDecode_of_checkFrame_error hs (checkFrame_short hlen), fun c1 hc1 => ?_⟩
  match w, hc1 with
  | a :: _ :: rest, rfl =>
    have check := checkFrame_two a c1 rest
    refine ⟨fun hcl => ?_, fun t hcl => ?_, fun t hcl => ?_, fun t hcl => ?_⟩ <;> rw [hcl] at check
    · exact execDecode_of_checkFrame_error hs check
    · exact execDecode_of_exactLength hs check
    · exact execDecode_of_exactLength hs check
    · cases rest with
      | nil => exact ⟨fun _ => execDecode_of_checkFrame_error hs check, nofun⟩
      | cons m body =>
        refine ⟨fun hlen => by simp at hlen, ?_⟩
        rintro n ⟨⟩
        exact execDecode_of_exactLength hs check

/-! A wrong CRC (R125). The checks before the CRC do not look at the last two bytes of a longer buffer. -/

theorem checkFrame_append_crc {p : List Byte} (hp : 3 ≤ p.length) (c d : Byte) :
    checkFrame (p ++ [c, d]) = checkFrame (withCrc p) := by
  match p, hp with
  | a :: c1 :: n :: rest, _ =>
    simp [withCrc, checkFrame_two, exactLength, crcBytes]

/-- An exact-length buffer whose last two bytes are not the CRC of the rest is answered with CRC mismatch (R125). -/
theorem decodeResult_of_crc_ne {p : List Byte} {c d : Byte} {cl : RspClass}
    (hcheck : checkFrame (p ++ [c, d]) = .ok (.ok cl)) (hcrc : crcBytes (crc16 p) ≠ [c, d]) :
    decodeResult (p ++ [c, d]) = .ok (.crcMismatch (crc16 p)) := by
  simp [decodeResult, hcheck, decodeExact_split, hcrc]

/-- Settles O23: with its own CRC the payload passes the checks of its kind, so it does with any two last bytes. -/
theorem wrongCrcExposesNoFrame : Obligations.WrongCrcExposesNoFrame := by
  intro p c d s hs hkind hcrc
  have hcheck : 3 ≤ p.length ∧ ∃ cl, checkFrame (withCrc p) = .ok (.ok cl) := by
    rcases hkind with ⟨a, e, t, rfl⟩ | ⟨a, r0, r1, v0, v1, t, ht, rfl⟩ | ⟨a, n, data, t, ht, hdata, rfl⟩
    · exact ⟨by simp, _, checkFrame_exception t a e⟩
    · exact ⟨by simp, _, checkFrame_write ht a r0 r1 v0 v1⟩
    · exact ⟨by simp, _, checkFrame_read ht a hdata⟩
  obtain ⟨hlen, cl, hok⟩ := hcheck
  exact execDecode_of_result hs (decodeResult_of_crc_ne ((checkFrame_append_crc hlen c d).trans hok) hcrc)

end Sys2Proof.Machine

namespace Sys2Proof.Machine

/-! The CRC tells every change of one byte (R129(f)): the shift step loses nothing, since the top bit of the polynomial
keeps the bit shifted out. -/

theorem crcShift_top_bit (c : Word) : (crcShift c).getLsbD 15 = c.getLsbD 0 := by
  unfold crcShift
  split
  case isTrue hbit => simp [hbit]
  case isFalse hbit => simpa using hbit

theorem crcShift_injective : Function.Injective crcShift := by
  intro c c' h
  have hlow : c.getLsbD 0 = c'.getLsbD 0 := by rw [← crcShift_top_bit, h, crcShift_top_bit]
  have hshift : c >>> 1 = c' >>> 1 := by
    unfold crcShift at h
    rw [hlow] at h
    split at h
    case isTrue => exact (BitVec.xor_left_inj _).mp h
    case isFalse => exact h
  apply BitVec.eq_of_getLsbD_eq
  intro i hi
  cases i with
  | zero => exact hlow
  | succ j => simpa [Nat.add_comm] using congrArg (BitVec.getLsbD · j) hshift

theorem crcShifts_injective (n : Nat) : Function.Injective (crcShifts n) := by
  rw [funext (crcShifts_eq_iterate n)]
  exact crcShift_injective.iterate n

/-- Two register values fed the same bytes stay apart. -/
theorem crcFeed_injective (bytes : List Byte) : Function.Injective (crcFeed · bytes) := by
  induction bytes with
  | nil => exact fun _ _ h => h
  | cons b rest ih =>
    intro c c' h
    exact (BitVec.xor_left_inj _).mp (crcShifts_injective _ (ih h))

/-- Two bytes fed to the same register value leave it apart. -/
theorem crcStep_right_injective (c : Word) : Function.Injective (crcStep c) := by
  intro b b' h
  have hwide := (BitVec.xor_right_inj _).mp (crcShifts_injective _ h)
  simpa using congrArg (BitVec.setWidth 8) hwide

/-- Replacing one byte leaves the CRC as it is only when it puts the same byte back. -/
theorem getElem?_of_crcFeed_set {w : List Byte} {i : Nat} (hi : i < w.length) {b : Byte} {c : Word}
    (h : crcFeed c (w.set i b) = crcFeed c w) : w[i]? = some b := by
  induction w generalizing i c with
  | nil => simp at hi
  | cons x rest ih =>
    cases i with
    | zero => simpa using (crcStep_right_injective c (crcFeed_injective rest h)).symm
    | succ j => simpa using ih (Nat.lt_of_succ_lt_succ hi) h

/-- Flipping a bit of a byte gives another byte. -/
theorem xor_bit_ne (b : Byte) {k : Nat} (hk : k < 8) : b ^^^ (1#8 <<< k) ≠ b := by
  intro h
  have hbit := congrArg (BitVec.getLsbD · k) h
  simp [hk] at hbit

theorem crc16_of_frame {w : List Byte} {r : Rsp} {c : Word} (h : decodeResult w = .ok (.frame r c)) :
    crc16 w = 0#16 := by
  obtain ⟨p, hp, -⟩ := rspCorrect_of_decodeResult h
  rw [← wire_of_decodeResult h, hp]
  exact frameWithItsCrcHasZeroResidue p

/-- A buffer that passes the checks before the CRC is a frame of zero residue or a CRC mismatch (R125, R129(d)). -/
theorem decodeResult_of_checkFrame_ok {w : List Byte} {cl : RspClass} (h : checkFrame w = .ok (.ok cl)) :
    crc16 w = 0#16 ∨ ∃ c, decodeResult w = .ok (.crcMismatch c) := by
  rcases decodeResult_cases w with ⟨f, hf, -⟩ | ⟨p, _, _, -, -, hd⟩ | ⟨_, _, -, hd, -⟩
  · cases hf.symm.trans h
  · exact .inr ⟨crc16 p, hd⟩
  · exact .inl (crc16_of_frame hd)

/-- Settles O14: both the correct frame and a changed one that passed the CRC would have zero residue, and the CRC tells
two buffers that differ in one byte apart. -/
theorem singleBitErrorIsDetected : Obligations.SingleBitErrorIsDetected := by
  intro w r c i k b cl hframe hb hk hcheck
  refine (decodeResult_of_checkFrame_ok hcheck).resolve_left fun hzero => ?_
  have hi : i < w.length := (List.getElem?_eq_some_iff.mp hb).1
  have hsame : w[i]? = some (b ^^^ (1#8 <<< k)) :=
    getElem?_of_crcFeed_set hi (hzero.trans (crc16_of_frame hframe).symm)
  exact xor_bit_ne b hk (Option.some.inj (hsame.symm.trans hb))

end Sys2Proof.Machine

namespace Sys2Proof.Machine

/-! The estimator as operations of the caller (R140, R141), and what more bytes do to its answer (R144(a)). -/

/-- The armed estimate of each kind (R140). -/
theorem provisionalEstimate_eq (k : RequestKind) :
    provisionalEstimate k = if k = .requestWrite then 8#16 else 3#16 := by
  cases k <;> rfl

/-- Settles O30: with no exchange in flight the operation arms the estimate its kind sets. -/
theorem estArmSetsTheProvisionalLength : Obligations.EstArmSetsTheProvisionalLength := by
  intro s hs
  refine ⟨.nothing, ?_⟩
  rw [← provisionalEstimate_eq]
  exact callerOp_ready hs

/-- With no exchange in flight `EST.UPDATE` leaves the refined estimate (R141). -/
theorem execEstUpdate_of_refined {s : State} {e : Word × Bool} (hs : inFlight s = false)
    (he : refineEstimate s.txKind s.rx s.est s.latched = .ok e) :
    exec .estUpdate s = .next (setEstimate e (returning .nothing s)) := by
  obtain ⟨e', he', hu⟩ := updateEstimate_eq (returning .nothing s)
  cases he.symm.trans he'
  exact (congrArg (callerOp s) hu).trans (callerOp_ready hs)

/-- Settles O31: the operation leaves what `refineEstimate` answers, which is each clause's case of it. -/
theorem estUpdateRefinesTheLength : Obligations.EstUpdateRefinesTheLength := by
  intro s hs
  obtain ⟨e, he⟩ := refineEstimate_ok s.txKind s.rx s.est s.latched
  refine ⟨e.1, e.2, .nothing, execEstUpdate_of_refined hs he, ?_, ?_⟩
  · rintro (hlatched | hshort)
    · rw [hlatched, refineEstimate_latched] at he
      cases he
      exact ⟨rfl, hlatched.symm⟩
    · rw [refineEstimate_short _ _ _ hshort] at he
      cases he
      exact ⟨rfl, rfl⟩
  · intro b0 b1 b2 rest hrx hopen
    rw [hrx, hopen, refineEstimate_open] at he
    cases he
    have hreq (hbelow : b1.toNat ≤ 16) : ¬ 16#8 < b1 := Nat.not_lt.mpr hbelow
    refine ⟨fun habove => ?_, fun hbelow hk => ?_, fun hbelow hk => ?_⟩
    · have hexc : 16#8 < b1 := habove
      simp [hexc]
    · simp [hreq hbelow, hk]
    · simp [hreq hbelow, hk]

/-- Settles O32: the bytes after the third do not enter the estimate, and a second update on the same bytes changes
nothing. -/
theorem settledEstimateNeverChanges : Obligations.SettledEstimateNeverChanges := by
  refine ⟨refineEstimate_latched, fun k rx more est l e hlong he => ?_⟩
  rw [refineEstimate_append k hlong, refineEstimate_settled he]

end Sys2Proof.Machine

namespace Sys2Proof.Machine

/-! The estimate against the decoder (R144(d), R127): both read the required length off bytes 1 and 2. -/

/-- The length that a class and byte 2 require of a response (R72 to R74, R124). -/
def requiredLength (cl : RspClass) (b2 : Byte) : Nat :=
  match cl with
  | .exception _ => 5
  | .write _ => 8
  | .read _ => 3 + b2.toNat + 2

theorem requiredLength_bounds (cl : RspClass) (b2 : Byte) :
    5 ≤ requiredLength cl b2 ∧ requiredLength cl b2 ≤ 260 := by
  have hb2 := b2.isLt
  cases cl <;> simp only [requiredLength] <;> omega

theorem exactLength_eq_ok_iff {w : List Byte} {need : Nat} {cl : RspClass} :
    exactLength w need cl = .ok cl ↔ w.length = need := by
  rcases Nat.lt_trichotomy w.length need with hshort | hexact | hlong
  · simp [exactLength_short hshort, hshort.ne]
  · simp [exactLength, hexact]
  · simp [exactLength_long hlong, hlong.ne']

/-- Three bytes that classify leave only the length to check (R127). -/
theorem checkFrame_three {b1 : Byte} {cl : RspClass} (hcl : classify b1 = some cl) (b0 b2 : Byte) (rest : List Byte) :
    checkFrame (b0 :: b1 :: b2 :: rest) = .ok (exactLength (b0 :: b1 :: b2 :: rest) (requiredLength cl b2) cl) := by
  rw [checkFrame_two, hcl]
  cases cl <;> rfl

/-- The byte 1 that a class comes from: the exception code or the request code of its function (R79). -/
theorem classify_eq_some {c : Byte} {cl : RspClass} (h : classify c = some cl) :
    (∃ t, c = exceptionCode t ∧ cl = .exception t) ∨
    (∃ t, c = requestCode t ∧ (cl = .write t ∨ cl = .read t)) := by
  unfold classify at h
  split at h
  case h_1 t hexc =>
    cases h
    exact .inl ⟨t, functionOfException_eq_some_iff.mp hexc, rfl⟩
  case h_2 =>
    split at h
    case h_1 t hreq =>
      refine .inr ⟨t, functionOfCode_eq_some_iff.mp hreq, ?_⟩
      split at h <;> cases h
      · exact .inl rfl
      · exact .inr rfl
    case h_2 => cases h

/-- The estimator's threshold parts the exception codes from the request codes (R141). -/
theorem threshold_lt_exceptionCode (t : FunctionType) : 16#8 < exceptionCode t := by
  cases t <;> decide

theorem not_threshold_lt_requestCode (t : FunctionType) : ¬ 16#8 < requestCode t := by
  cases t <;> decide

/-- A response whose class answers the request's kind refines the armed estimate to the length it requires. -/
theorem refineEstimate_of_classify {k : RequestKind} {b1 : Byte} {cl : RspClass} (hcl : classify b1 = some cl)
    (hread : ∀ t, cl = .read t → k = .requestRead) (hwrite : ∀ t, cl = .write t → k = .requestWrite)
    (b0 b2 : Byte) (rest : List Byte) :
    ∃ e, refineEstimate k (b0 :: b1 :: b2 :: rest) (provisionalEstimate k) false = .ok e ∧
      e.1.toNat = requiredLength cl b2 := by
  refine ⟨_, refineEstimate_open k b0 b1 b2 rest _, ?_⟩
  rcases classify_eq_some hcl with ⟨t, rfl, rfl⟩ | ⟨t, rfl, rfl | rfl⟩
  · simp [threshold_lt_exceptionCode, requiredLength]
  · cases hwrite t rfl
    simp [not_threshold_lt_requestCode, requiredLength, provisionalEstimate_eq]
  · cases hread t rfl
    simp [not_threshold_lt_requestCode, requiredLength]

/-- Settles O33: the refined estimate is the required length, and the decoder's last check compares with that. -/
theorem estimateIsTheDecodersLength : Obligations.EstimateIsTheDecodersLength := by
  intro k b0 b1 b2 rest cl hcl hread hwrite
  obtain ⟨e, he, hlen⟩ := refineEstimate_of_classify hcl hread hwrite b0 b2 rest
  obtain ⟨hmin, hmax⟩ := requiredLength_bounds cl b2
  refine ⟨e, he, hlen ▸ hmin, hlen ▸ hmax, ?_⟩
  rw [checkFrame_three hcl, Except.ok.injEq, exactLength_eq_ok_iff, hlen]

end Sys2Proof.Machine

namespace Sys2Proof.Machine

/-! A fragment past the estimate (R143, R155). -/

/-- A step on a fragment inside its precondition takes the fragment, then compares (R155). -/
theorem step_fragment {s : State} {rest : List Event} {f : List Byte} {e : Word × Bool}
    (hinbox : s.inbox = .fragment f :: rest) (hsess : s.sess = .awaitingResponse) (hsub : s.subscribed = true)
    (he : refineEstimate s.txKind (s.rx ++ f) s.est s.latched = .ok e) :
    step s = outcomeOf (settleFragment (takeFragment f e (withInbox rest s))) := by
  obtain ⟨e', he', hstep⟩ := fragmentStep_eq f (withInbox rest s)
  cases he.symm.trans he'
  have hfragment : onFragment f (withInbox rest s) = fragmentStep f (withInbox rest s) := if_pos ⟨hsess, hsub⟩
  rw [step_cons hinbox, handle, hfragment, hstep]
  rfl

/-- Overshoot comes before completion (R175(b)). -/
theorem settleFragment_overshoots {s : State} (h : s.est.toNat < rxLen s) :
    settleFragment s = .ok (overshootExchange s) :=
  if_pos (decide_eq_true h)

theorem overshootExchange_ends {s : State} (h : s.cfg.overshootReport = .errorReceiveMessage) :
    overshootExchange s = leaveAwaiting .receiveFailed .errorReceiveMessage { s with overshoot := true } := by
  simp [overshootExchange, h]

theorem overshootExchange_waits {s : State} (h : s.cfg.overshootReport = .waitForTimeout) :
    overshootExchange s = { s with overshoot := true } := by
  simp [overshootExchange, h]

/-- Settles O41: the fragment taken leaves more bytes than the estimate, and `OVERSHOOT_REPORT` selects the report. -/
theorem overshootIsReported : Obligations.OvershootIsReported := by
  intro s rest f e hinbox hsess hsub he hlong
  have hover : (takeFragment f e (withInbox rest s)).est.toNat < rxLen (takeFragment f e (withInbox rest s)) := hlong
  rw [step_fragment hinbox hsess hsub he, settleFragment_overshoots hover]
  constructor <;> intro hreport
  · rw [overshootExchange_ends (s := takeFragment f e (withInbox rest s)) hreport]
    simp [outcomeOf, leaveAwaiting, unsubscribe, transportCall, takeFragment, setEstimate, restartWatchdog,
      rxAppend, withInbox]
  · rw [overshootExchange_waits (s := takeFragment f e (withInbox rest s)) hreport]
    rfl

end Sys2Proof.Machine

namespace Sys2Proof.Machine

/-! The transitions of the session (R150, R200): for each move, the only changes of `sess` it can make. -/

/-- An invocation that answers ran its own instruction, or `DECODE` of response bytes that make no frame (log 5). -/
theorem invoke_next_cases {r : Raw} {s t : State} (h : invoke r s = .next t) :
    (∃ i, decode r = .ok i ∧ exec i s = .next t) ∨ ∃ w, exec (.decode w) s = .next t := by
  unfold invoke at h
  split at h
  case h_1 i hi => exact .inl ⟨i, hi, h⟩
  case h_2 =>
    cases r with
    | responseFrame w => exact .inr ⟨w, h⟩
    | command | requestFrame => simp [onUndecodable] at h

theorem sess_startExchange {a : Byte} {fn : FnSel} {addr tail : List Byte} {s t : State}
    (h : startExchange a fn addr tail s = .ok t) : t.sess = .sending ∨ t.sess = .idle := by
  rcases startExchange_eq_ok h with ⟨k, r0, r1, t0, t1, rfl⟩ | ⟨c, rfl⟩
  · exact .inl rfl
  · exact .inr rfl

/-- Of the operations only `EXECUTE` changes the session state, and only where no exchange is in flight. -/
theorem sess_exec {i : Instr} {s t : State} (h : exec i s = .next t) (hne : t.sess ≠ s.sess) :
    inFlight s = false ∧ (t.sess = .sending ∨ t.sess = .idle) ∧ ∃ a fn addr tail, i = .execute a fn addr tail := by
  obtain ⟨hrest, hans⟩ := exec_next h
  by_cases hi : ∃ a fn addr tail, i = .execute a fn addr tail
  · obtain ⟨a, fn, addr, tail, rfl⟩ := hi
    exact ⟨hrest, sess_startExchange hans.of_execute, a, fn, addr, tail, rfl⟩
  · exact absurd (hans.sameSession fun a fn addr tail heq => hi ⟨a, fn, addr, tail, heq⟩).sess hne

theorem sess_invoke {r : Raw} {s t : State} (h : invoke r s = .next t) (hne : t.sess ≠ s.sess) :
    inFlight s = false ∧ (t.sess = .sending ∨ t.sess = .idle) ∧
      ∃ a fn addr tail, decode r = .ok (.execute a fn addr tail) := by
  rcases invoke_next_cases h with ⟨i, hi, hexec⟩ | ⟨w, hexec⟩
  · obtain ⟨hrest, hsess, a, fn, addr, tail, rfl⟩ := sess_exec hexec hne
    exact ⟨hrest, hsess, a, fn, addr, tail, hi⟩
  · obtain ⟨-, -, a, fn, addr, tail, hdecode⟩ := sess_exec hexec hne
    cases hdecode

theorem sess_onNotify {answer : Bool} {s : State} (hne : (onNotify answer s).sess ≠ s.sess) :
    s.sess = .sending ∧
      ((answer = false ∧ (onNotify answer s).sess = .cantUpdate) ∨
       (answer = true ∧ s.cfg.notifyCheckFirst = false ∧ (onNotify answer s).sess = .awaitingResponse)) := by
  rcases onNotify_cases answer s with h | ⟨hs, -, ⟨-, -, h⟩ | ⟨hans, hcfg, h⟩ | ⟨hans, h⟩⟩
  · exact absurd (congrArg State.sess h) hne
  · exact absurd (congrArg State.sess h) hne
  · exact ⟨hs, .inr ⟨hans, hcfg, congrArg State.sess h⟩⟩
  · exact ⟨hs, .inl ⟨hans, congrArg State.sess h⟩⟩

theorem sess_onWrite {answer : Bool} {s : State} (hne : (onWrite answer s).sess ≠ s.sess) :
    s.sess = .sending ∧
      ((answer = false ∧ s.writeTries ≠ 0 ∧ (onWrite answer s).sess = .sendFailed) ∨
       (answer = true ∧ s.cfg.notifyCheckFirst = true ∧ (onWrite answer s).sess = .awaitingResponse)) := by
  rcases onWrite_cases answer s with
    h | ⟨hs, -, ⟨hans, hcfg, h⟩ | ⟨-, -, h⟩ | ⟨-, -, h⟩ | ⟨hans, htries, h⟩⟩
  · exact absurd (congrArg State.sess h) hne
  · exact ⟨hs, .inr ⟨hans, hcfg, congrArg State.sess h⟩⟩
  · exact absurd (congrArg State.sess h) hne
  · exact absurd (congrArg State.sess h) hne
  · exact ⟨hs, .inl ⟨hans, htries, congrArg State.sess h⟩⟩

/-- An overshoot ends the exchange, or leaves it waiting under `WaitForTimeout` (R155, D17). -/
theorem sess_overshootExchange (s : State) :
    (overshootExchange s).sess = .receiveFailed ∨ (overshootExchange s).sess = s.sess := by
  cases h : s.cfg.overshootReport with
  | errorReceiveMessage => exact .inl (congrArg State.sess (overshootExchange_ends h))
  | waitForTimeout => exact .inr (by rw [overshootExchange_waits h])

/-- A decode leaves the exchange `Complete`, whatever its outcome (R156). -/
theorem sess_completionOf (d : DecodeResult) (s : State) :
    (completionOf d (applyDecode d (enterComplete s))).sess = .complete := by
  cases d <;> rfl

theorem sess_onFragment {f : List Byte} {s t : State} (h : onFragment f s = .ok t) (hne : t.sess ≠ s.sess) :
    s.sess = .awaitingResponse ∧ (t.sess = .complete ∨ t.sess = .receiveFailed) := by
  rcases onFragment_eq_ok h with rfl | ⟨hs, -, e, -, hsettle⟩
  · exact absurd rfl hne
  · refine ⟨hs, ?_⟩
    rcases settleFragment_eq_ok hsettle with ⟨-, rfl⟩ | ⟨-, d, -, rfl⟩ | ⟨-, rfl⟩
    · exact .inr ((sess_overshootExchange _).resolve_right hne)
    · exact .inl (sess_completionOf d _)
    · exact absurd rfl hne

theorem sess_onWatchdog {s : State} (hne : (onWatchdog s).sess ≠ s.sess) :
    s.sess = .awaitingResponse ∧ (onWatchdog s).sess = .timedOut := by
  rcases onWatchdog_cases s with h | ⟨hs, -, h⟩
  · exact absurd (congrArg State.sess h) hne
  · exact ⟨hs, congrArg State.sess h⟩

theorem sess_onDisconnect {s : State} (hne : (onDisconnect s).sess ≠ s.sess) :
    s.sess = .awaitingResponse ∧ (onDisconnect s).sess = .receiveFailed := by
  rcases onDisconnect_cases s with h | ⟨hs, h⟩
  · exact absurd (congrArg State.sess h) hne
  · exact ⟨hs, congrArg State.sess h⟩

/-- Settles O51: taking the move off `inbox` leaves `sess` alone, and the handler of each move makes no change of it
but those of its own rows of the table. -/
theorem sessionChangesOnlyAsTheTableSays : Obligations.SessionChangesOnlyAsTheTableSays := by
  intro s t e rest hinbox h hne
  rw [step_cons hinbox] at h
  cases e with
  | reset =>
    cases h
    exact .inl ⟨rfl, rfl⟩
  | invoke r =>
    obtain ⟨hrest, hsess, a, fn, addr, tail, hdecode⟩ := sess_invoke h hne
    exact .inr (.inl ⟨hrest, hsess, r, a, fn, addr, tail, rfl, hdecode⟩)
  | notify answer =>
    cases h
    obtain ⟨hs, ⟨rfl, hsess⟩ | ⟨rfl, hcfg, hsess⟩⟩ := sess_onNotify hne
    · exact .inr (.inr (.inl ⟨hs, .inl ⟨rfl, hsess⟩⟩))
    · exact .inr (.inr (.inl ⟨hs, .inr (.inr (.inr ⟨rfl, hcfg, hsess⟩))⟩))
  | write answer =>
    cases h
    obtain ⟨hs, ⟨rfl, htries, hsess⟩ | ⟨rfl, hcfg, hsess⟩⟩ := sess_onWrite hne
    · exact .inr (.inr (.inl ⟨hs, .inr (.inl ⟨rfl, htries, hsess⟩)⟩))
    · exact .inr (.inr (.inl ⟨hs, .inr (.inr (.inl ⟨rfl, hcfg, hsess⟩))⟩))
  | fragment f =>
    obtain ⟨hs, hsess⟩ := sess_onFragment (outcomeOf_next h) hne
    exact .inr (.inr (.inr ⟨hs, .inl ⟨f, rfl, hsess⟩⟩))
  | watchdog =>
    cases h
    obtain ⟨hs, hsess⟩ := sess_onWatchdog hne
    exact .inr (.inr (.inr ⟨hs, .inr (.inl ⟨rfl, hsess⟩)⟩))
  | disconnect =>
    cases h
    obtain ⟨hs, hsess⟩ := sess_onDisconnect hne
    exact .inr (.inr (.inr ⟨hs, .inr (.inr ⟨rfl, hsess⟩)⟩))

end Sys2Proof.Machine

namespace Sys2Proof.Machine

/-! `EXECUTE` on good and on bad operands (R151, R159), and the refusal of R160. -/

theorem execExecute_of_ok {a : Byte} {fn : FnSel} {addr tail : List Byte} {s t : State} (hs : inFlight s = false)
    (h : startExchange a fn addr tail s = .ok t) : exec (.execute a fn addr tail) s = .next t := by
  change callerOp s (startExchange a fn addr tail s) = .next t
  rw [h, callerOp_ready hs]

theorem startExchange_of_encodeWith {a : Byte} {fn : FnSel} {addr tail : List Byte} {s t : State}
    (h : encodeWith a fn addr tail (freshIdle s) = .ok t) :
    startExchange a fn addr tail s = .ok (afterEncode t) := by
  simp [startExchange, h]

/-- Bad operands raise the fault of their first failed check, the function before the widths (R112). -/
theorem encodeWith_bad {fn : FnSel} {addr tail : List Byte}
    (h : mappedFunction fn = none ∨ addr.length ≠ 2 ∨ tail.length ≠ 2) (a : Byte) (s : State) :
    ∃ cause : ParameterCause, (cause = .unmappedFunction ↔ mappedFunction fn = none) ∧
      encodeWith a fn addr tail s =
        .ok (raiseCodec .enc (.invalidParameter cause) (loadRequest a fn addr tail s)) := by
  cases fn with
  | unmapped6 | unmapped7 => exact ⟨.unmappedFunction, by simp [mappedFunction], encodeWith_unmapped rfl a addr tail s⟩
  | fn t =>
    have hwidth : addr.length ≠ 2 ∨ tail.length ≠ 2 := h.resolve_left (by simp [mappedFunction])
    exact ⟨.badWidth, by simp [mappedFunction], encodeWith_badWidth a t s hwidth⟩

/-- Settles O34: `ENCODE` writes the request into a fresh `Idle`, and with no fault the session sends. -/
theorem executeStartsAnExchange : Obligations.ExecuteStartsAnExchange := by
  intro a r0 r1 t0 t1 t s hs
  have hencode := encodeWith_good a t r0 r1 t0 t1 (freshIdle s)
  rw [execExecute_of_ok hs (startExchange_of_encodeWith hencode), ← requestKind_eq]
  simp only [afterEncode, writeTx, setCrc, loadRequest, requestFrame, wordOfBytes_low_high]
  rfl

/-- Settles O35: `ENCODE` raises its fault in a fresh `Idle`, and the exchange returns that fault. -/
theorem executeWithBadParametersSendsNothing : Obligations.ExecuteWithBadParametersSendsNothing := by
  intro a fn addr tail s hs hbad
  obtain ⟨cause, hcause, hencode⟩ := encodeWith_bad hbad a (freshIdle s)
  exact ⟨_, cause, execExecute_of_ok hs (startExchange_of_encodeWith hencode), hcause,
    rfl, rfl, rfl, rfl, rfl, rfl, rfl, rfl, rfl, rfl, rfl, rfl, rfl, rfl⟩

/-- Settles O36: every instruction is an operation of the caller. -/
theorem operationsDuringAnExchangeAreRefused : Obligations.OperationsDuringAnExchangeAreRefused := by
  intro i s hs
  obtain ⟨t, hexec⟩ := exec_eq_callerOp_ok i s
  rw [hexec, callerOp_in_flight _ ((inFlight_iff s).mpr hs)]

end Sys2Proof.Machine

namespace Sys2Proof.Machine

/-! The answers of the transport while the session sends (R152 to R154). -/

/-- What arming writes (R154, R140). -/
theorem armExchange_eq (s : State) :
    armExchange s = { s with
      est := if s.txKind = .requestWrite then 8#16 else 3#16, latched := false
      wdArmed := true, subscribed := true, calls := s.calls ++ [.subscribe]
      sess := .awaitingResponse, call := .none } := by
  rw [← provisionalEstimate_eq]
  rfl

@[simp] theorem countWrite_calls (s : State) : (countWrite s).calls = s.calls ++ [.write s.tx] := rfl

theorem onNotify_false {s : State} (hs : s.sess = .sending) (hcall : s.call = .supportsNotifications) :
    onNotify false s =
      leaveSending .cantUpdate .characteristicCantUpdate (transportCall .supportsNotifications s) :=
  if_pos ⟨hs, hcall⟩

theorem onNotify_true_checkFirst {s : State} (hs : s.sess = .sending) (hcall : s.call = .supportsNotifications)
    (hcfg : s.cfg.notifyCheckFirst = true) :
    onNotify true s = { transportCall .supportsNotifications s with call := .write } := by
  simp [onNotify, hs, hcall, hcfg]

theorem onNotify_true_checkLast {s : State} (hs : s.sess = .sending) (hcall : s.call = .supportsNotifications)
    (hcfg : s.cfg.notifyCheckFirst = false) :
    onNotify true s = armExchange (transportCall .supportsNotifications s) := by
  simp [onNotify, hs, hcall, hcfg]

theorem onWrite_true_checkFirst {s : State} (hs : s.sess = .sending) (hcall : s.call = .write)
    (hcfg : s.cfg.notifyCheckFirst = true) : onWrite true s = armExchange (countWrite s) := by
  simp [onWrite, countWrite, hs, hcall, hcfg]

theorem onWrite_true_checkLast {s : State} (hs : s.sess = .sending) (hcall : s.call = .write)
    (hcfg : s.cfg.notifyCheckFirst = false) :
    onWrite true s = { countWrite s with call := .supportsNotifications } := by
  simp [onWrite, countWrite, hs, hcall, hcfg]

theorem onWrite_false_first {s : State} (hs : s.sess = .sending) (hcall : s.call = .write)
    (htries : s.writeTries = 0) : onWrite false s = countWrite s := by
  simp [onWrite, countWrite, hs, hcall, htries]

theorem onWrite_false_again {s : State} (hs : s.sess = .sending) (hcall : s.call = .write)
    (htries : s.writeTries ≠ 0) :
    onWrite false s = leaveSending .sendFailed .errorSendMessage (countWrite s) := by
  simp [onWrite, countWrite, hs, hcall, htries]

/-- Settles O37: the answer and the order of the check select the way on. -/
theorem notificationAnswerDecides : Obligations.NotificationAnswerDecides := by
  intro s rest answer hinbox hsess hcall
  refine ⟨onNotify answer (withInbox rest s), step_cons hinbox, ?_, ?_, ?_⟩
  · rintro rfl
    exact onNotify_false hsess hcall
  · rintro rfl hcfg
    exact onNotify_true_checkFirst hsess hcall hcfg
  · rintro rfl hcfg
    rw [onNotify_true_checkLast (s := withInbox rest s) hsess hcall hcfg, armExchange_eq, transportCall_calls,
      List.append_assoc]
    rfl

/-- Settles O38: the count of writes decides between the retry and the end of the exchange. -/
theorem failedWriteIsRetriedOnce : Obligations.FailedWriteIsRetriedOnce := by
  intro s rest hinbox hsess hcall
  rw [step_cons hinbox, handle]
  constructor <;> intro htries
  · rw [onWrite_false_first (s := withInbox rest s) hsess hcall htries]
    simp [countWrite, transportCall, withInbox, htries]
  · rw [onWrite_false_again (s := withInbox rest s) hsess hcall htries]
    simp [leaveSending, countWrite, transportCall, withInbox, htries]

/-- Settles O39: the order of the check decides between arming and the check. -/
theorem successfulWriteArmsTheExchange : Obligations.SuccessfulWriteArmsTheExchange := by
  intro s rest hinbox hsess hcall
  rw [step_cons hinbox, handle]
  constructor <;> intro hcfg
  · rw [onWrite_true_checkFirst (s := withInbox rest s) hsess hcall hcfg, armExchange_eq, countWrite_calls,
      List.append_assoc]
    rfl
  · rw [onWrite_true_checkLast (s := withInbox rest s) hsess hcall hcfg]
    rfl

end Sys2Proof.Machine

namespace Sys2Proof.Machine

/-! A session that waits, and the same moves outside the wait (R155 to R158, R174). -/

theorem settleFragment_waitsOn {s : State} (h : rxLen s < s.est.toNat) : settleFragment s = .ok s := by
  rcases settleFragment_cases s with ⟨hover, -⟩ | ⟨hdone, -⟩ | ⟨-, hsettle⟩
  · omega
  · omega
  · exact hsettle

/-- A buffer of the estimated length is decoded in the same transition (R155, R156; log 20). -/
theorem settleFragment_completes {s : State} {d : DecodeResult} (h : rxLen s = s.est.toNat)
    (hd : decodeResult s.rx = .ok d) :
    settleFragment s = .ok (completionOf d (applyDecode d (enterComplete s))) := by
  rcases settleFragment_cases s with ⟨hover, -⟩ | ⟨-, hsettle⟩ | ⟨hshort, -⟩
  · omega
  · obtain ⟨d', hd', hcomplete⟩ := completeExchange_eq s
    cases hd.symm.trans hd'
    exact hsettle.trans hcomplete
  · omega

/-- Settles O40: the fragment taken leaves fewer bytes than the estimate, so no comparison ends the wait. -/
theorem fragmentIsAccumulated : Obligations.FragmentIsAccumulated := by
  intro s rest f e hinbox hsess hsub he hshort
  have hwaits : rxLen (takeFragment f e (withInbox rest s)) < (takeFragment f e (withInbox rest s)).est.toNat := hshort
  rw [step_fragment hinbox hsess hsub he, settleFragment_waitsOn hwaits]
  rfl

/-- The registers of a completed exchange that do not depend on the outcome of the decode (R155). -/
theorem completionOf_ends (d : DecodeResult) (s : State) :
    let t := completionOf d (applyDecode d (enterComplete s))
    t.done = true ∧ t.wdArmed = false ∧ t.subscribed = false ∧ t.rx = s.rx ∧ t.est = s.est ∧
      t.latched = s.latched ∧ t.calls = s.calls ++ [.unsubscribe] := by
  cases d <;> simp [completionOf, applyDecode]

/-- Settles O42: the fragment taken leaves as many bytes as the estimate, so the buffer is decoded, and the outcome of
that decode selects the result. -/
theorem completeFrameIsDecoded : Obligations.CompleteFrameIsDecoded := by
  intro s rest f e hinbox hsess hsub he hexact
  have hcomplete :
      rxLen (takeFragment f e (withInbox rest s)) = (takeFragment f e (withInbox rest s)).est.toNat := hexact
  obtain ⟨d, hd⟩ := decodeResult_ok (s.rx ++ f)
  have hstep := step_fragment hinbox hsess hsub he
  rw [settleFragment_completes hcomplete hd] at hstep
  obtain ⟨hdone, hwd, hunsub, hrx, hest, hlatched, hcalls⟩ :=
    completionOf_ends d (takeFragment f e (withInbox rest s))
  refine ⟨_, hstep, sess_completionOf d _, hdone, hwd, hunsub, hrx, hest, hlatched, hcalls, ?_, ?_, ?_⟩
  · intro r c hframe
    cases hd.symm.trans hframe
    simp [completionOf, applyDecode, takeFragment]
  · intro c hmismatch
    cases hd.symm.trans hmismatch
    simp [completionOf, applyDecode, takeFragment]
  · intro g hraised
    cases hd.symm.trans hraised
    simp [completionOf, applyDecode, takeFragment]

/-- Settles O46: the estimate of a waiting session is settled, so an empty fragment leaves it, and the comparison comes
out as before: short of the estimate, or past it under `WaitForTimeout`. -/
theorem emptyFragmentOnlyRestartsTheWatchdog : Obligations.EmptyFragmentOnlyRestartsTheWatchdog := by
  intro s rest hs hinbox hsess
  have hw := hs.waitInv hsess
  have he : refineEstimate s.txKind (s.rx ++ []) s.est s.latched = .ok (s.est, s.latched) := by
    rw [List.append_nil, hw.estSettled]
  rcases hs.notYetComplete hsess with hshort | ⟨hover, hlong⟩
  · rw [fragmentIsAccumulated s rest [] _ hinbox hsess hw.subscribed he (by simpa [rxLen] using hshort), List.append_nil]
  · have hreport : s.cfg.overshootReport = .waitForTimeout := by
      cases hc : s.cfg.overshootReport with
      | errorReceiveMessage => exact absurd hc (hw.overshootFits hover)
      | waitForTimeout => rfl
    obtain ⟨-, hwaits⟩ := overshootIsReported s rest [] _ hinbox hsess hw.subscribed he (by simpa [rxLen] using hlong)
    rw [hwaits hreport, List.append_nil, ← hover]

/-- Settles O43: the watchdog is armed and the session waits, so the exchange ends. -/
theorem watchdogEndsTheWait : Obligations.WatchdogEndsTheWait := by
  intro s rest hinbox hsess hwd
  have hends : onWatchdog (withInbox rest s) = leaveAwaiting .timedOut .timeout (withInbox rest s) :=
    if_pos ⟨hsess, hwd⟩
  rw [step_cons hinbox, handle, hends]
  rfl

/-- Settles O44: the session waits, so the exchange ends with the parameter. -/
theorem disconnectCancelsTheWait : Obligations.DisconnectCancelsTheWait := by
  intro s rest hinbox hsess
  have hends : onDisconnect (withInbox rest s) =
      leaveAwaiting .receiveFailed s.cfg.disconnectState (withInbox rest s) := if_pos hsess
  rw [step_cons hinbox, handle, hends]
  rfl

theorem onFragment_stray {s : State} (hs : s.sess ≠ .awaitingResponse) (f : List Byte) : onFragment f s = .ok s :=
  if_neg fun h => hs h.1

theorem onWatchdog_stray {s : State} (hs : s.sess ≠ .awaitingResponse) : onWatchdog s = s :=
  if_neg fun h => hs h.1

theorem onDisconnect_stray {s : State} (hs : s.sess ≠ .awaitingResponse) : onDisconnect s = s :=
  if_neg hs

/-- Settles O45: each of the three moves has the wait in its precondition. -/
theorem strayEventChangesNothing : Obligations.StrayEventChangesNothing := by
  intro s rest e hinbox hsess he
  have hstray : (withInbox rest s).sess ≠ .awaitingResponse := hsess
  rw [step_cons hinbox]
  rcases he with ⟨f, rfl⟩ | rfl | rfl
  · exact congrArg outcomeOf (onFragment_stray hstray f)
  · exact congrArg Host.Outcome.next (onWatchdog_stray hstray)
  · exact congrArg Host.Outcome.next (onDisconnect_stray hstray)

end Sys2Proof.Machine

namespace Sys2Proof.Machine

/-! The fault log (R177, D20; log 29): what each move does to `fault` and `faultLog`. Only `ENCODE` and `DECODE` raise a
codec fault, as operations or inside an exchange, and whoever raises one takes it down. -/

/-- The codec fault and the fault log are the same in `t` as in `s`. -/
structure SameFaults (s t : State) : Prop where
  fault : t.fault = s.fault
  log : t.faultLog = s.faultLog

/-- Between `s` and `t` either no fault was raised, and `fault` is kept or cleared, or one was, and it was taken
down behind those already in the log. -/
inductive FaultsTaken (s t : State) : Prop
  | kept (log : t.faultLog = s.faultLog) (fault : t.fault = s.fault ∨ t.fault = .none)
  | raised (u : CodecUnit) (fault : t.fault ≠ .none)
      (log : t.faultLog = s.faultLog ++ [{ raisedBy := u, fault := t.fault }])

theorem SameFaults.faultsTaken {s t : State} (h : SameFaults s t) : FaultsTaken s t :=
  .kept h.log (.inl h.fault)

/-- Steps that leave both fields alone may come before and after. -/
theorem FaultsTaken.between {s s' t' t : State} (h : FaultsTaken s' t') (before : SameFaults s s')
    (after : SameFaults t' t) : FaultsTaken s t := by
  cases h with
  | kept log fault =>
    refine .kept (after.log.trans (log.trans before.log)) ?_
    rwa [after.fault, ← before.fault]
  | raised u fault log =>
    refine .raised u (after.fault ▸ fault) ?_
    rw [after.log, after.fault, log, before.log]

/-- A frame written clears `fault`; a fault of the encoder is taken down (R111, R112). -/
theorem faultsTaken_encodeWith {a : Byte} {fn : FnSel} {addr tail : List Byte} {s t : State}
    (h : encodeWith a fn addr tail s = .ok t) : FaultsTaken s t := by
  rcases encodeWith_eq_ok h with ⟨k, r0, r1, t0, t1, rfl⟩ | ⟨c, rfl⟩
  · exact .kept rfl (.inr rfl)
  · exact .raised .enc nofun rfl

/-- A frame or a CRC mismatch clears `fault`; a fault of the decoder is taken down (R124 to R126). -/
theorem faultsTaken_applyDecode {w : List Byte} {d : DecodeResult} (h : decodeResult w = .ok d) (s : State) :
    FaultsTaken s (applyDecode d s) := by
  cases d with
  | frame | crcMismatch => exact .kept rfl (.inr rfl)
  | raised f => exact .raised .dec (decodeResult_fault h) rfl

/-- The fresh `Idle` clears `fault` and leaves the log, and then the request is encoded (R151, R177). -/
theorem faultsTaken_startExchange {a : Byte} {fn : FnSel} {addr tail : List Byte} {s t : State}
    (h : startExchange a fn addr tail s = .ok t) : FaultsTaken s t := by
  rcases startExchange_eq_ok h with ⟨k, r0, r1, t0, t1, rfl⟩ | ⟨c, rfl⟩
  · exact .kept rfl (.inr rfl)
  · exact .raised .enc nofun rfl

/-- Every instruction that answers has taken down the fault it raised. -/
theorem ExecAnswer.faultsTaken {i : Instr} {s t : State} (h : ExecAnswer s i t) : FaultsTaken s t := by
  cases h with
  | requestRow => exact faultsTaken_encodeWith (encodeWith_good _ _ _ _ _ _ s)
  | encode result => exact faultsTaken_encodeWith result
  | responseRow _ result | decode result => exact faultsTaken_applyDecode result s
  | execute result => exact faultsTaken_startExchange result
  | crcInit | crcByte | crcOut | crc16 | estArm | estUpdate => exact .kept rfl (.inl rfl)

theorem sameFaults_countWrite (s : State) : SameFaults s (countWrite s) := ⟨rfl, rfl⟩

theorem sameFaults_onNotify (answer : Bool) (s : State) : SameFaults s (onNotify answer s) := by
  rcases onNotify_cases answer s with h | ⟨-, -, ⟨-, -, h⟩ | ⟨-, -, h⟩ | ⟨-, h⟩⟩ <;>
    exact ⟨by simp [h], by simp [h]⟩

theorem sameFaults_onWrite (answer : Bool) (s : State) : SameFaults s (onWrite answer s) := by
  obtain ⟨hfault, hlog⟩ := sameFaults_countWrite s
  rcases onWrite_cases answer s with h | ⟨-, -, ⟨-, -, h⟩ | ⟨-, -, h⟩ | ⟨-, -, h⟩ | ⟨-, -, h⟩⟩ <;>
    exact ⟨by simp [h, hfault], by simp [h, hlog]⟩

theorem sameFaults_onWatchdog (s : State) : SameFaults s (onWatchdog s) := by
  rcases onWatchdog_cases s with h | ⟨-, -, h⟩ <;> exact ⟨by simp [h], by simp [h]⟩

theorem sameFaults_onDisconnect (s : State) : SameFaults s (onDisconnect s) := by
  rcases onDisconnect_cases s with h | ⟨-, h⟩ <;> exact ⟨by simp [h], by simp [h]⟩

theorem sameFaults_overshootExchange (s : State) : SameFaults s (overshootExchange s) := by
  cases h : s.cfg.overshootReport with
  | errorReceiveMessage => exact ⟨by simp [overshootExchange_ends h], by simp [overshootExchange_ends h]⟩
  | waitForTimeout => exact ⟨by rw [overshootExchange_waits h], by rw [overshootExchange_waits h]⟩

/-- The tagged end of an exchange reports what the decode did to `fault` and writes neither field (R156). -/
theorem sameFaults_completionOf (d : DecodeResult) (s : State) : SameFaults s (completionOf d s) := by
  cases d <;> constructor <;> rfl

/-- Of the three ends of a fragment only completion can raise a fault, by its decode (R155, R156). -/
theorem faultsTaken_settleFragment {s t : State} (h : settleFragment s = .ok t) : FaultsTaken s t := by
  rcases settleFragment_eq_ok h with ⟨-, rfl⟩ | ⟨-, d, hd, rfl⟩ | ⟨-, rfl⟩
  · exact (sameFaults_overshootExchange s).faultsTaken
  · exact (faultsTaken_applyDecode hd (enterComplete s)).between ⟨rfl, rfl⟩ (sameFaults_completionOf d _)
  · exact .kept rfl (.inl rfl)

theorem faultsTaken_onFragment {f : List Byte} {s t : State} (h : onFragment f s = .ok t) : FaultsTaken s t := by
  rcases onFragment_eq_ok h with rfl | ⟨-, -, e, -, hsettle⟩
  · exact .kept rfl (.inl rfl)
  · exact (faultsTaken_settleFragment hsettle).between (s' := takeFragment f e s) ⟨rfl, rfl⟩ ⟨rfl, rfl⟩

/-- Every move of any agent takes down the fault it raises; reset raises none and keeps the log (log 29). -/
theorem faultsTaken_handle {e : Event} {s t : State} (h : handle e s = .next t) : FaultsTaken s t := by
  cases e with
  | invoke r =>
    obtain ⟨i, hi⟩ := invoke_next h
    exact (exec_next hi).2.faultsTaken
  | notify answer => cases h; exact (sameFaults_onNotify answer s).faultsTaken
  | write answer => cases h; exact (sameFaults_onWrite answer s).faultsTaken
  | fragment => exact faultsTaken_onFragment (outcomeOf_next h)
  | watchdog => cases h; exact (sameFaults_onWatchdog s).faultsTaken
  | disconnect => cases h; exact (sameFaults_onDisconnect s).faultsTaken
  | reset => cases h; exact .kept rfl (.inr rfl)

/-- A step handles one move, the move taken off `inbox`, or waits. -/
theorem faultsTaken_step {s t : State} (h : step s = .next t) : FaultsTaken s t := by
  rcases step_next h with ⟨-, rfl⟩ | ⟨e, rest, -, hhandle⟩
  · exact .kept rfl (.inl rfl)
  · exact (faultsTaken_handle hhandle).between (s' := withInbox rest s) ⟨rfl, rfl⟩ ⟨rfl, rfl⟩

/-- Settles O60: no move changes the two fields but as `FaultsTaken` says. -/
theorem faultLogIsSticky : Obligations.FaultLogIsSticky := by
  intro s t h
  cases faultsTaken_step h with
  | kept log fault => exact .inl ⟨log, fault⟩
  | raised u fault log => exact .inr ⟨u, fault, log⟩

end Sys2Proof.Machine

namespace Sys2Proof.Machine

/-! Reset, and the ended exchange (R200, R210). -/

/-- A move `reset` is handled by `onReset`, the move taken off `inbox` (R200). -/
theorem step_reset {s : State} {rest : List Event} (h : s.inbox = .reset :: rest) :
    step s = .next (onReset (withInbox rest s)) :=
  step_cons h

/-- Settles O53: `onReset` keeps of the state only what lies outside the block. -/
theorem resetAbandonsTheExchange : Obligations.ResetAbandonsTheExchange := by
  intro s rest hinbox
  rw [step_reset hinbox, onReset]
  simp only [withInbox_calls, withInbox_faultLog, withInbox_inbox, withInbox_cfg]

/-- No exchange is in flight exactly where one has ended or none has begun (R150, R160). -/
theorem inFlight_false_iff_terminal_or_idle (s : State) :
    inFlight s = false ↔ isTerminal s.sess = true ∨ s.sess = .idle := by
  unfold inFlight
  cases s.sess <;> decide

/-- Settles O59: such a state is out of flight, where the invariant is `RestInv`. -/
theorem endedExchangeIsQuiet : Obligations.EndedExchangeIsQuiet := by
  intro s hs hsess
  have hrest : RestInv s := hs.restInv ((inFlight_false_iff_terminal_or_idle s).mpr hsess)
  exact ⟨hrest.wdArmed, hrest.subscribed, hrest.call⟩

end Sys2Proof.Machine
